-- ==== Sys2Proof/Word.lean ====
section
/-! DEFINITION. The plain value types of the Sofzan 4120: bytes and samples (00_scope.md, Conventions). -/

namespace Sys2Proof

/-- One byte of a packet, a record or the DRAM. -/
abbrev Byte := BitVec 8

/-- One 10-bit sample of Y, Cb or Cr (00_scope.md, Samples). -/
abbrev Sample := BitVec 10

end Sys2Proof
end

