-- ==== Sys2Proof/Syntax.lean ====
section
/-! DEFINITION. The commands of the Sofzan 4120, one constructor per row of spec/opcode_table.json. -/

namespace Sys2Proof

/-- The two output links (00_scope.md). -/
inductive LaneId where
  | a
  | b
  deriving DecidableEq, Repr

/-- Why a packet with a good header is discarded (R21): its CRC-32 fails, or it is a format error
(unknown kind, a length that does not fit the kind, an OPEN whose two link sequences differ, a DIRECTIVE
whose class byte names no class). -/
inductive BadCause where
  | crc
  | format
  deriving DecidableEq, Repr

/-- The commands. A Tile Link packet carries the fields the TI reads from it (R193). The executions of
directives have no operand: the directive executed is the head of the Directive FIFO (R178). -/
inductive Instr where
  /-- RESET_N is applied; the operand is the level of TRIG when the reset ends (R132). -/
  | resetLine (trigHigh : Bool)
  | headerFailure
  | badPacket (cause : BadCause)
  /-- OPEN: link sequence of the header, its copy in the payload, W and H. -/
  | openPacket (linkSeq seqCopy w h : BitVec 16)
  /-- TILE: link sequence, position and the sample bytes. -/
  | tilePacket (linkSeq position : BitVec 16) (bytes : List Byte)
  /-- CLOSE: link sequence and the count of TILE packets sent. -/
  | closePacket (linkSeq count : BitVec 16)
  /-- DIRECTIVE: source class byte of the header, directive code, tag and argument bytes. -/
  | directivePacket (classByte code tag : Byte) (args : List Byte)
  | fillPacket
  | refPulse
  | refLost
  /-- An edge on TRIG: rising or falling. -/
  | trigEdge (rising : Bool)
  | creditPulse (lane : LaneId)
  | laneStall (lane : LaneId)
  | lanePacketSent (lane : LaneId)
  | arbiterChoice
  | handOver
  | codeTile
  | passByEntry
  | passByRow
  | loadProfile
  | loadLadder
  | setRing
  | setLanes
  | setLaneBFeed
  | setTrigger
  | setTimecode
  | jam
  | arm
  | disarm
  | start
  | stop
  | mark
  | query
  | readTake
  | clearTakes
  | restart
  | reset
  | unknownDirective
  deriving DecidableEq, Repr

end Sys2Proof
end

