-- ==== Sys2Proof/Decode.lean ====
section
/-! DEFINITION. Words to commands: spec/opcode_table.json gives no row any bits, so no word spells a command.
(The bytes of the Tile Link are read in Machine/Link.lean.) -/

namespace Sys2Proof

/-- The command that a word spells by the table's bits: none, for no row of the table gives bits. -/
def decodeTableWord (_nbits _w : Nat) : Option Instr := none

end Sys2Proof
end

