-- ==== Sys2Proof/Config.lean ====
section
/-! DEFINITION. What the spec leaves to the part or to the DRAM: free values, constants with no body. -/

namespace Sys2Proof

/-- What the error-correcting code finds in a DRAM word that is not clean (R113): one wrong bit, which is
delivered corrected, or an error it cannot correct, with the word as it is read. -/
inductive WordError where
  | single
  | uncorrectable (asRead : BitVec 64)
  deriving DecidableEq, Repr

/-- FREE VALUE (log 7). The part's coder at one step value, before `compressedPayload` brings it under R70 and R71:
the payload it would need is 8 bytes more than 8 times this number. -/
opaque Config.coderBlocks : List Sample → Nat → Nat

/-- FREE VALUE (log 7). Byte `i` of the compressed payload of these samples at this step; the spec leaves the
content to the part's coder (R71). The first argument is the model's counter for free values. -/
opaque Config.coderByte : Nat → List Sample → Nat → Nat → Byte

/-- FREE VALUE (log 42). The step of a rung that the active ladder does not reach: no rule gives one. -/
opaque Config.stepBeyond : List Nat → Nat → Nat

/-- FREE VALUE (log 8). The error that a DRAM word shows for the first time at a read (R113, R114): the first
argument is the model's counter for free values, the second the word's number (byte address divided by 8). -/
opaque Config.freshWordError : Nat → Nat → Option WordError

end Sys2Proof
end

