-- ==== Sys2Proof/Machine/State.lean ====
section
/-! DEFINITION. The state of the Sofzan 4120 as plain data, block by block, and the state after reset.
Counts, source numbers and sizes are Nat (log 4); a field says its range where the spec gives one. -/

namespace Sys2Proof.Machine

/-- The two streams (00_scope.md, Stream names). -/
inductive Stream where
  | f
  | p
  deriving DecidableEq, Repr

/-- A timecode label (R118). -/
structure Label where
  hours : Nat := 0
  minutes : Nat := 0
  seconds : Nat := 0
  frames : Nat := 0
  deriving DecidableEq, Repr

/-! ## Profile Store -/

/-- A stream profile with its derived quantities (Table 1-2, R5 to R7). For stream F `width` and `height` are
W and H and scale and decimation are 1; for stream P they are Wp and Hp. -/
structure ProfileRec where
  valid : Bool
  /-- which load made the record (R40's "that record"; log 11) -/
  serial : Nat
  width : Nat
  height : Nat
  scale : Nat
  decimation : Nat
  share : Nat
  rateCode : Nat
  rate : Nat
  ceiling : Nat
  qlo : Nat
  qstart : Nat
  qhi : Nat
  stride : Nat
  tilesAcross : Nat
  rows : Nat
  tiles : Nat
  padLines : Nat
  target : Nat
  rowTarget : Nat
  /-- reservation size in bytes, a multiple of 64 (R7) -/
  reservation : Nat
  deriving DecidableEq, Repr

/-- A pending profile and its effective source number (R9). -/
structure PendingProfile where
  record : ProfileRec
  effective : Nat
  deriving DecidableEq, Repr

/-- A pending ladder and its effective source number (R9). -/
structure PendingLadder where
  steps : List Nat
  effective : Nat
  deriving DecidableEq, Repr

/-- A ring: base page and page count (R13). -/
structure Ring where
  base : Nat
  pages : Nat
  deriving DecidableEq, Repr

/-- The tables of one stream (Table 1-1). `none` in an active field: no valid record was ever loaded. -/
structure StreamTables where
  profile : Option ProfileRec := none
  pendingProfile : Option PendingProfile := none
  ladder : Option (List Nat) := none
  pendingLadder : Option PendingLadder := none
  ring : Option Ring := none
  deriving DecidableEq, Repr

/-- Lane B's feed (Table 1-6). -/
inductive Feed where
  | off
  | takes
  | always
  deriving DecidableEq, Repr

/-- The lane map (Table 1-6). -/
structure LaneMap where
  aF : Bool := true
  aP : Bool := true
  feed : Feed := .off
  bStream : Stream := .p
  bmax : Nat := 4
  deriving DecidableEq, Repr

/-- The trigger mode (R16). -/
inductive TrigMode where
  | off
  | rising
  | falling
  | both
  deriving DecidableEq, Repr

structure Prs where
  f : StreamTables := {}
  p : StreamTables := {}
  lanes : LaneMap := {}
  trigger : TrigMode := .off
  nextSerial : Nat := 0
  deriving DecidableEq, Repr

/-! ## Tile Intake -/

/-- Link state (2.1). -/
inductive LinkState where
  | hunt
  | locked
  deriving DecidableEq, Repr

/-- Status of the current picture (Table 2-2). -/
inductive PicStatus where
  | idle
  | opened
  | ended
  | dropping
  deriving DecidableEq, Repr

/-- Stream states in a picture record (Table 2-5). -/
inductive StreamState where
  | waiting
  | coding
  | stored
  | spilled
  | abandoned
  | notCoded
  deriving DecidableEq, Repr

/-- A Picture Table record (Table 2-4). -/
structure PicRecord where
  source : Nat
  frStamp : Label
  rrStamp : Option Label := none
  take : Option Nat := none
  openLost : Bool := false
  truncated : Bool := false
  concealed : Bool := false
  stampRepeat : Bool := false
  proxySelected : Bool := false
  fState : StreamState := .waiting
  pState : Option StreamState := none
  deriving DecidableEq, Repr

/-- A Tile FIFO entry (Table 2-7). The record reference is the source number; END names its picture too (R74). -/
inductive FifoEntry where
  | openE (source : Nat)
  | tileE (position : Nat) (samples : List Sample)
  | runE (first count : Nat)
  | endE (source : Nat) (openLost truncated concealed : Bool)
  deriving DecidableEq, Repr

/-- The counters of Table 2-8. -/
structure TiCounters where
  headerFailures : Nat := 0
  lockLosses : Nat := 0
  crcFailures : Nat := 0
  formatErrors : Nat := 0
  stale : Nat := 0
  duplicateOpens : Nat := 0
  impliedOpens : Nat := 0
  dropNoProfile : Nat := 0
  dropGeometry : Nat := 0
  dropTableFull : Nat := 0
  dropFifoFull : Nat := 0
  duplicateTiles : Nat := 0
  droppedTiles : Nat := 0
  overrun : Nat := 0
  concealedPositions : Nat := 0
  truncations : Nat := 0
  closeMismatches : Nat := 0
  unmatchedCloses : Nat := 0
  deriving DecidableEq, Repr

structure Ti where
  link : LinkState := .hunt
  fails : Nat := 0
  status : PicStatus := .idle
  linkSeq : BitVec 16 := 0
  source : Nat := 0
  tiles : Nat := 0
  expected : Nat := 0
  received : Nat := 0
  /-- an OVERRUN notice was raised for the current picture (R33; log 26) -/
  overrunNoted : Bool := false
  geometryLatch : Bool := false
  capacityLatch : Bool := false
  nextSource : Nat := 0
  fifo : List FifoEntry := []
  table : List PicRecord := []
  counters : TiCounters := {}
  deriving DecidableEq, Repr

/-! ## Proxy Scaler -/

/-- Scaler states (Table 3-2). -/
inductive ScalerState where
  | idle
  | scaling
  | ignoring
  deriving DecidableEq, Repr

/-- The picture being scaled or ignored, with the record adopted for it (Table 3-1). -/
structure Scaled where
  source : Nat
  record : ProfileRec
  deriving DecidableEq, Repr

/-- The accumulation band: the sums of the real lines of one proxy tile row, line by line, and for each proxy
tile whether some contributing position arrived as a TILE (the concealed mark is its negation; R45). -/
structure Band where
  y : List Nat := []
  cb : List Nat := []
  cr : List Nat := []
  arrived : List Bool := []
  deriving DecidableEq, Repr

/-- A tile of a proxy row: 512 Y, 256 Cb, 256 Cr samples in the order of R193, and its concealed mark. -/
structure ProxyTile where
  samples : List Sample
  concealed : Bool
  deriving DecidableEq, Repr

/-- A completed proxy tile row in a Proxy Row Slot (3.5). -/
structure ProxyRow where
  source : Nat
  row : Nat
  last : Bool
  tiles : List ProxyTile
  deriving DecidableEq, Repr

/-- The two Proxy Row Slots. -/
inductive SlotId where
  | one
  | two
  deriving DecidableEq, Repr

/-- The counters of Table 3-7. -/
structure PsCounters where
  selected : Nat := 0
  selectedDrops : Nat := 0
  rowsPlaced : Nat := 0
  abandons : Nat := 0
  deriving DecidableEq, Repr

structure Ps where
  adopted : Option ProfileRec := none
  phase : Nat := 0
  mode : ScalerState := .idle
  scaled : Option Scaled := none
  row : Nat := 0
  band : Band := {}
  slot1 : Option ProxyRow := none
  slot2 : Option ProxyRow := none
  /-- with both slots occupied, slot 2 holds the older row -/
  slot2Older : Bool := false
  counters : PsCounters := {}
  deriving DecidableEq, Repr

/-! ## Tile Coder and stream contexts -/

/-- Context states (Table 4-2). -/
inductive CtxState where
  | inactive
  | ready
  | coding
  | discarding
  deriving DecidableEq, Repr

/-- The fields of Table 4-1 that belong to the working set, and the position of the picture's first flat tile,
which the CEILING notice carries (R92; log 26). -/
structure WorkingSet where
  state : CtxState := .inactive
  picture : Option Nat := none
  row : Nat := 0
  column : Nat := 0
  startRung : Nat := 0
  q : Nat := 0
  debt : Int := 0
  coded : Nat := 0
  flatLatch : Bool := false
  flats : Nat := 0
  raws : Nat := 0
  conceals : Nat := 0
  saturations : Nat := 0
  firstFlat : Option Nat := none
  unitPos : Option Nat := none
  deriving DecidableEq, Repr

/-- The counters a context keeps (R77, R94). -/
structure CtxCounters where
  restarts : Nat := 0
  staleAbandons : Nat := 0
  discarded : Nat := 0
  passed : Nat := 0
  flats : Nat := 0
  raws : Nat := 0
  conceals : Nat := 0
  saturations : Nat := 0
  debtClamps : Nat := 0
  flatPictures : Nat := 0
  deriving DecidableEq, Repr

/-- A stream context record (Table 4-1): the stored working set, the gap count and the pending set (R62). -/
structure Ctx where
  ws : WorkingSet := {}
  gap : Nat := 0
  restart : Bool := false
  abandon : Option Nat := none
  activate : Bool := false
  counters : CtxCounters := {}
  deriving DecidableEq, Repr

/-- A turn in progress: its stream, whether its hand-over is still under way, the requests read at the choice
(R62), the slot whose row it took (R58), and the coded bytes of its row so far (log 26). -/
structure Turn where
  stream : Stream
  handingOver : Bool := false
  restart : Bool := false
  abandon : Option Nat := none
  activate : Bool := false
  slot : Option SlotId := none
  rowBytes : List Byte := []
  deriving DecidableEq, Repr

structure TcCounters where
  handOvers : Nat := 0
  fTurns : Nat := 0
  pTurns : Nat := 0
  deriving DecidableEq, Repr

structure Tc where
  loaded : Option Stream := none
  ws : WorkingSet := {}
  share : Nat := 0
  turn : Option Turn := none
  counters : TcCounters := {}
  deriving DecidableEq, Repr

/-! ## Frame Store Controller -/

/-- A Unit Directory entry (Table 6-3), with the unit's row count (R114; log 26). -/
structure DirEntry where
  source : Nat
  offset : Nat
  length : Nat
  rows : Nat
  frStamp : Label
  rrStamp : Option Label := none
  take : Option Nat := none
  openLost : Bool := false
  truncated : Bool := false
  concealed : Bool := false
  stampRepeat : Bool := false
  flat : Bool := false
  gap : Nat := 0
  needA : Bool := false
  needB : Bool := false
  sentA : Bool := false
  sentB : Bool := false
  faultA : Bool := false
  faultB : Bool := false
  deriving DecidableEq, Repr

/-- A reservation: start and size in granules (R97). -/
structure Reservation where
  start : Nat
  size : Nat
  deriving DecidableEq, Repr

/-- The per-ring counters of R115. -/
structure RingCounters where
  reservations : Nat := 0
  spillsSpace : Nat := 0
  spillsDirectory : Nat := 0
  discardedUnits : Nat := 0
  completed : Nat := 0
  ordinaryReleases : Nat := 0
  spaceReleases : Nat := 0
  laneBDrops : Nat := 0
  deriving DecidableEq, Repr

/-- Ring state (Table 6-1) and the unit in progress (R102). The directory is oldest first. -/
structure RingState where
  tail : Nat := 0
  head : Nat := 0
  allocated : Nat := 0
  reservation : Option Reservation := none
  running : Nat := 0
  rowOffsets : List Nat := []
  dir : List DirEntry := []
  spillLatch : Bool := false
  counters : RingCounters := {}
  deriving DecidableEq, Repr

/-- Where an uncorrectable word lies (Table 6-5). -/
inductive FaultKind where
  | header
  | table
  | tiles
  deriving DecidableEq, Repr

/-- A fault record (Table 6-5). -/
structure FaultRecord where
  kind : FaultKind
  requester : LaneId
  stream : Stream
  source : Nat
  page : Nat
  offset : Nat
  segment : Nat
  deriving DecidableEq, Repr

structure Fsc where
  f : RingState := {}
  p : RingState := {}
  newest : Option Nat := none
  lastFault : Option FaultRecord := none
  corrected : Nat := 0
  uncorrectable : Nat := 0
  deriving DecidableEq, Repr

/-! ## Timecode Unit -/

/-- Timecode mode (R120). -/
inductive TcMode where
  | freeRun
  | recordRun
  deriving DecidableEq, Repr

/-- The latest picture open and the label it took (Table 7-1). -/
structure LastOpen where
  source : Nat
  label : Label
  deriving DecidableEq, Repr

/-- A pending free-run jam (R127). -/
structure Jam where
  label : Label
  align : Bool
  deriving DecidableEq, Repr

/-- The trigger capture record (R130). -/
structure Capture where
  source : Option Nat
  label : Label
  deriving DecidableEq, Repr

/-- The counters of Table 7-7. -/
structure TcuCounters where
  refPulses : Nat := 0
  skippedLabels : Nat := 0
  refLosses : Nat := 0
  stampRepeats : Nat := 0
  jamsLoaded : Nat := 0
  risingEdges : Nat := 0
  fallingEdges : Nat := 0
  deriving DecidableEq, Repr

structure Tcu where
  base : Nat := 25
  drop : Bool := false
  mode : TcMode := .freeRun
  freeRun : Label := {}
  recordRun : Label := {}
  labelTaken : Bool := false
  lastOpen : Option LastOpen := none
  refPresent : Bool := true
  opensSincePulse : Nat := 0
  opensSinceLoss : Nat := 0
  jam : Option Jam := none
  alignAwaiting : Bool := false
  trigHigh : Bool := false
  capture : Option Capture := none
  counters : TcuCounters := {}
  deriving DecidableEq, Repr

/-! ## Take Controller -/

/-- Controller states (Table 8-2). -/
inductive CtlState where
  | idle
  | caching
  | recording
  deriving DecidableEq, Repr

inductive TakeState where
  | opened
  | closing
  | closed
  deriving DecidableEq, Repr

/-- End reasons (Table 8-3). -/
inductive EndReason where
  | stop
  | trigger
  | spill
  | restart
  | empty
  deriving DecidableEq, Repr

/-- The source class of a directive (R22). -/
inductive SourceClass where
  | console
  | accessory
  deriving DecidableEq, Repr

/-- A mark entry (R156). -/
structure Mark where
  code : Nat
  cls : SourceClass
  source : Option Nat
  label : Label
  deriving DecidableEq, Repr

/-- The last F unit handed of a take: source number and stamp (R143, R152; log 26). -/
structure LastFull where
  source : Nat
  stamp : Label
  deriving DecidableEq, Repr

/-- A take record (Table 8-3). E is an Int, for it may be S - 1 with S = 0 (R197). -/
structure TakeRec where
  number : Nat
  state : TakeState := .opened
  s0 : Nat
  pActual : Nat
  s : Nat
  e : Option Int := none
  stopPending : Option EndReason := none
  mode : TcMode
  aF : Bool
  aP : Bool
  bP : Bool
  startStamp : Option Label := none
  endStamp : Option Label := none
  proxyFirst : Option Nat := none
  proxyLast : Option Nat := none
  full : Nat := 0
  proxy : Nat := 0
  gaps : Nat := 0
  reason : Option EndReason := none
  short : Bool := false
  concealed : Bool := false
  flat : Bool := false
  marks : List Mark := []
  refused : Nat := 0
  lastFull : Option LastFull := none
  /-- R142's note that the take may carry the proxy of a pre-roll picture (log 32) -/
  mayCarryProxy : Bool := false
  deriving DecidableEq, Repr

/-- A take marker (R146, R147). A TAKE CLOSE carries the record as it stood when it was appended. -/
inductive Marker where
  | takeOpen (number s0 s pActual : Nat) (mode : TcMode)
  | takeClose (record : TakeRec)
  deriving DecidableEq, Repr

/-- An item of a send list or of a lane hold (R160). -/
inductive Item where
  | unit (stream : Stream) (source : Nat)
  | marker (m : Marker)
  deriving DecidableEq, Repr

/-- A P unit waiting for its master (R144), its take, and the lanes its needs were newly set for (log 17). -/
structure Waiting where
  source : Nat
  take : Nat
  toA : Bool
  toB : Bool
  deriving DecidableEq, Repr

/-- The counters of Table 8-5; takes closed has one per end reason, in the order of Table 8-3. -/
structure TkcCounters where
  started : Nat := 0
  closedStop : Nat := 0
  closedTrigger : Nat := 0
  closedSpill : Nat := 0
  closedRestart : Nat := 0
  closedEmpty : Nat := 0
  clamped : Nat := 0
  overflow : Nat := 0
  ignoredTriggers : Nat := 0
  marksRefused : Nat := 0
  cutPictures : Nat := 0
  deriving DecidableEq, Repr

structure Tkc where
  ctl : CtlState := .idle
  armed : Bool := false
  pmax : Nat := 0
  lastOpen : Option Nat := none
  lastEnd : Option Int := none
  fCut : Option Nat := none
  nextTake : Nat := 1
  takes : List TakeRec := []
  holdA : List Item := []
  holdB : List Item := []
  waiting : List Waiting := []
  counters : TkcCounters := {}
  deriving DecidableEq, Repr

/-! ## Reports, replies and notices -/

/-- The directives of Table 10-1, in the order of their codes 0x01 to 0x12 (Table 11-3). -/
inductive DirKind where
  | loadProfile
  | loadLadder
  | setRing
  | setLanes
  | setLaneBFeed
  | setTrigger
  | setTimecode
  | jam
  | arm
  | disarm
  | start
  | stop
  | mark
  | query
  | readTake
  | clearTakes
  | restart
  | reset
  deriving DecidableEq, Repr

/-- Reply codes (R181). -/
inductive ReplyCode where
  | done
  | doneClamped
  | doneConflict
  | refusedClass
  | refusedBusy
  | refusedState
  | refusedRange
  | refusedFull
  | refusedUnknown
  | refusedFormat
  deriving DecidableEq, Repr

/-- Reply data (R182); a QUERY snapshot is given as its bytes (R197). -/
inductive ReplyData where
  | none
  | loaded (stream : Stream) (effective : Nat)
  | jammed (label : Label) (pending : Bool)
  | armed (pmax : Nat)
  | started (take s0 s pActual : Nat)
  | stopped (take : Nat) (e : Int) (closing : Bool)
  | marked (take position : Nat)
  | snapshot (group : Nat) (bytes : List Byte)
  | take (record : TakeRec)
  | cleared (count : Nat)
  | restarted (stream : Stream) (cancelled : Option Nat)
  deriving DecidableEq, Repr

/-- Why a reservation failed (R99). -/
inductive SpillReason where
  | space
  | directory
  deriving DecidableEq, Repr

/-- Why a kept picture could not be taken in for want of room (Table 2-3). -/
inductive CapacityReason where
  | tableFull
  | fifoFull
  deriving DecidableEq, Repr

/-- Notices (Table 10-3), in the order of their kinds 0x01 to 0x0C. -/
inductive Notice where
  | overrun (source : Nat)
  | pictureDropped (source : Nat) (reason : CapacityReason)
  | geometry (source w h : Nat)
  | proxySkip (source row : Nat) (begun : Bool)
  | ceiling (stream : Stream) (source firstFlat flats coded ceilingC : Nat)
  | spill (stream : Stream) (source : Nat) (reason : SpillReason) (shortfall : Nat) (tail : Option Nat)
  | fault (record : FaultRecord)
  | refLost (source : Option Nat) (label : Label)
  | refRestored (label : Label) (opens : Nat)
  | laneStall (lane : LaneId) (stream : Stream) (source segment count : Nat)
  | laneResumed (lane : LaneId) (count : Nat)
  | directiveLost (code tag : Byte) (cls : SourceClass)
  deriving DecidableEq, Repr

/-- A report: a reply or a notice (10.6). -/
inductive Report where
  | reply (cls : SourceClass) (code tag : Byte) (rc : ReplyCode) (data : ReplyData)
  | notice (n : Notice)
  deriving DecidableEq, Repr

/-- A report in a queue, with the lost count it took at its admission (R186). -/
structure QueuedReport where
  report : Report
  lost : Nat
  deriving DecidableEq, Repr

/-! ## Lane senders -/

/-- An essence segment as it is sent (R164). -/
structure Segment where
  stream : Stream
  source : Nat
  index : Nat
  last : Bool
  damaged : Bool
  dropCount : Nat
  data : List Byte
  deriving DecidableEq, Repr

/-- A lane packet (11.3). -/
inductive Packet where
  | segment (g : Segment)
  | marker (m : Marker)
  | report (r : QueuedReport)
  deriving DecidableEq, Repr

/-- The unit in progress and its next segment index (Table 9-1). -/
structure InProgress where
  stream : Stream
  source : Nat
  next : Nat
  deriving DecidableEq, Repr

/-- The counters of Table 9-3. -/
structure LaneCounters where
  segments : Nat := 0
  damaged : Nat := 0
  units : Nat := 0
  markers : Nat := 0
  reports : Nat := 0
  pulses : Nat := 0
  excess : Nat := 0
  stalls : Nat := 0
  markerRefusals : Nat := 0
  refusedReports : Nat := 0
  backlogDrops : Nat := 0
  ringDrops : Nat := 0
  cutShort : Nat := 0
  deriving DecidableEq, Repr

/-- A lane sender (Table 9-1). `tx = none` is FREE, `tx = some k` is SENDING k. -/
structure LaneSender where
  items : List Item := []
  inProgress : Option InProgress := none
  unannounced : Option Nat := none
  /-- the take whose TAKE OPEN was appended, until its TAKE CLOSE is (R161; log 18) -/
  openTake : Option Nat := none
  /-- LS-B: the source number of the last unit appended since the last reset (R161; log 37) -/
  lastUnit : Option Nat := none
  tx : Option Packet := none
  credit : Nat := 0
  stall : Nat := 0
  stallLatch : Bool := false
  queue : List QueuedReport := []
  lost : Nat := 0
  dropPending : Nat := 0
  counters : LaneCounters := {}
  deriving DecidableEq, Repr

/-! ## Directive Unit -/

/-- A directive in the Directive FIFO (10.1). -/
structure Directive where
  cls : SourceClass
  code : Byte
  tag : Byte
  args : List Byte
  deriving DecidableEq, Repr

/-- An entry of a reply-wait list (R183). -/
structure ReplyTo where
  tag : Byte
  cls : SourceClass
  deriving DecidableEq, Repr

/-- The counters of Table 10-6; `taken` is indexed by directive, in the order of Table 11-3. -/
structure DuCounters where
  taken : List Nat := List.replicate 18 0
  unknown : Nat := 0
  classRefusals : Nat := 0
  formatRefusals : Nat := 0
  busy : Nat := 0
  state : Nat := 0
  range : Nat := 0
  full : Nat := 0
  lost : Nat := 0
  waitOverflows : Nat := 0
  deriving DecidableEq, Repr

structure Du where
  fifo : List Directive := []
  waitF : List ReplyTo := []
  waitP : List ReplyTo := []
  counters : DuCounters := {}
  deriving DecidableEq, Repr

/-- A DRAM word (byte address divided by 8) that holds an error (R113). -/
structure BadWord where
  word : Nat
  error : WordError
  deriving DecidableEq, Repr

/-! ## The whole part -/

/-- The state of the part. `dram` is in the canonical form of `Mem.wf`; `freeTick` is the model's own (log 9);
`pending` is the queue of waiting commands, first in, first out. -/
structure State where
  ti : Ti := {}
  du : Du := {}
  prs : Prs := {}
  ps : Ps := {}
  tc : Tc := {}
  scF : Ctx := {}
  scP : Ctx := {}
  fsc : Fsc := {}
  tcu : Tcu := {}
  tkc : Tkc := {}
  lsA : LaneSender := {}
  lsB : LaneSender := {}
  dram : List Host.Cell := []
  wordErrors : List BadWord := []
  freeTick : Nat := 0
  pending : List Instr := []
  deriving DecidableEq, Repr

/-- No condition of the 4120 stops the part, so a step has no fault to answer with (INVENTORY.md, Faults). -/
inductive Fault where
  deriving DecidableEq, Repr

/-- Why a command is turned away without a meaning. -/
inductive Refusal where
  /-- Raised by no arm: every command has its meaning. Safe: nothing is claimed of a command turned away. -/
  | notModelled (mnemonic : String)
  deriving DecidableEq, Repr

/-- The part right after the reset line (R17, R39, R55, R76, R116, R132, R158, R173, Table 10-5), with TRIG low
and an empty DRAM listing (logs 5 and 6). -/
def State.reset : State := {}

end Sys2Proof.Machine
end

