-- ==== Sys2Proof/Machine/Operands.lean ====
section
/-! DEFINITION. Reading operands: byte strings as numbers and back (00_scope.md, Byte order), the samples of a
TILE (R193), and the arguments of the directives (Tables 11-3 and 11-4, R194). -/

namespace Sys2Proof.Machine

/-! ## Numbers in byte strings, most significant byte first -/

/-- The `n` bytes of `v`, most significant first (00_scope.md, Byte order). -/
def be : Nat → Nat → List Byte
  | 0, _ => []
  | n + 1, v => BitVec.ofNat 8 (v / 256 ^ n) :: be n v

/-- The number a byte string holds, most significant byte first. -/
def beValue (bytes : List Byte) : Nat := bytes.foldl (fun v b => v * 256 + b.toNat) 0

/-- The number in `n` bytes at offset `off`. -/
def fieldAt (bytes : List Byte) (off n : Nat) : Nat := beValue ((bytes.drop off).take n)

/-- A flag byte: bit 0 alone is read (R194). -/
def flagAt (bytes : List Byte) (off : Nat) : Bool := fieldAt bytes off 1 % 2 == 1

/-! ## Samples (R193) -/

/-- The 10-bit samples of a byte string, most significant bit first: 4 samples in every 5 bytes. -/
def unpackSamples : List Byte → List Sample
  | a :: b :: c :: d :: e :: rest =>
    let v := (((a.toNat * 256 + b.toNat) * 256 + c.toNat) * 256 + d.toNat) * 256 + e.toNat
    BitVec.ofNat 10 (v / 1073741824) :: BitVec.ofNat 10 (v / 1048576) :: BitVec.ofNat 10 (v / 1024) ::
      BitVec.ofNat 10 v :: unpackSamples rest
  | _ => []

/-- The bytes of samples packed at 10 bits each, most significant bit first. -/
def packSamples : List Sample → List Byte
  | a :: b :: c :: d :: rest =>
    let v := ((a.toNat * 1024 + b.toNat) * 1024 + c.toNat) * 1024 + d.toNat
    BitVec.ofNat 8 (v / 4294967296) :: BitVec.ofNat 8 (v / 16777216) :: BitVec.ofNat 8 (v / 65536) ::
      BitVec.ofNat 8 (v / 256) :: BitVec.ofNat 8 v :: packSamples rest
  | _ => []

/-- The three components of a picture. -/
inductive Component where
  | y
  | cb
  | cr
  deriving DecidableEq, Repr

/-- Columns of one component in a tile: 64 for Y, 32 for Cb and Cr (00_scope.md, Tiles). -/
def Component.tileColumns : Component → Nat
  | .y => 64
  | .cb | .cr => 32

/-- Where a component begins among the 1,024 samples of a tile (R193). -/
def Component.base : Component → Nat
  | .y => 0
  | .cb => 512
  | .cr => 768

/-- The samples of one component of a tile: 512 of Y, 256 of Cb, 256 of Cr (R193). -/
def componentSamples (c : Component) (samples : List Sample) : List Sample :=
  (samples.drop c.base).take (8 * c.tileColumns)

/-- The sample of a component of a tile at a column and a line of the tile. -/
def sampleAt (c : Component) (samples : List Sample) (column line : Nat) : Nat :=
  (samples.getD (c.base + line * c.tileColumns + column) 0).toNat

/-! ## Directive codes and argument lengths (R178, R194) -/

/-- The directives in the order of their codes (Table 11-3). -/
def DirKind.all : List DirKind :=
  [.loadProfile, .loadLadder, .setRing, .setLanes, .setLaneBFeed, .setTrigger, .setTimecode, .jam, .arm,
   .disarm, .start, .stop, .mark, .query, .readTake, .clearTakes, .restart, .reset]

/-- The place of a directive in Table 11-3, from 0. -/
def DirKind.index : DirKind → Nat
  | .loadProfile => 0 | .loadLadder => 1 | .setRing => 2 | .setLanes => 3 | .setLaneBFeed => 4
  | .setTrigger => 5 | .setTimecode => 6 | .jam => 7 | .arm => 8 | .disarm => 9 | .start => 10
  | .stop => 11 | .mark => 12 | .query => 13 | .readTake => 14 | .clearTakes => 15 | .restart => 16
  | .reset => 17

/-- The code of a directive: its place in Table 11-3, from 0x01. -/
def DirKind.code (k : DirKind) : Byte := BitVec.ofNat 8 (k.index + 1)

/-- The directive that a code names, if any (R178, check 1). -/
def DirKind.ofCode (b : Byte) : Option DirKind := DirKind.all.find? fun k => k.code == b

/-- Privileged directives (Table 10-1). -/
def DirKind.privileged : DirKind → Bool
  | .loadProfile | .loadLadder | .setRing | .setLanes | .setTrigger | .setTimecode | .jam | .clearTakes
  | .restart | .reset => true
  | .setLaneBFeed | .arm | .disarm | .start | .stop | .mark | .query | .readTake => false

/-- The argument length a directive requires (Table 11-4); LOAD LADDER's depends on its count byte (R194). -/
def DirKind.argLength (args : List Byte) : DirKind → Nat
  | .loadProfile => 18
  | .loadLadder => 2 + 2 * fieldAt args 1 1
  | .setRing => 7
  | .setLanes => 5
  | .setLaneBFeed => 2
  | .setTrigger => 1
  | .setTimecode => 3
  | .jam => 5
  | .arm | .start => 2
  | .mark => 1
  | .query => 2
  | .readTake => 2
  | .restart => 1
  | .disarm | .stop | .clearTakes | .reset => 0

/-! ## Coded values (11.2) -/

/-- A stream byte: 0x00 F, 0x01 P. -/
def streamOf : Nat → Option Stream
  | 0 => some .f
  | 1 => some .p
  | _ => none

/-- A carriage byte: 0x00 off, 0x01 in takes. -/
def carriageOf : Nat → Option Bool
  | 0 => some false
  | 1 => some true
  | _ => none

/-- A feed byte: 0x00 off, 0x01 takes, 0x02 always. -/
def feedOf : Nat → Option Feed
  | 0 => some .off
  | 1 => some .takes
  | 2 => some .always
  | _ => none

/-- A trigger mode byte: 0x00 off, 0x01 rising, 0x02 falling, 0x03 both. -/
def trigModeOf : Nat → Option TrigMode
  | 0 => some .off
  | 1 => some .rising
  | 2 => some .falling
  | 3 => some .both
  | _ => none

/-- A timecode mode byte: 0x00 free-run, 0x01 record-run. -/
def tcModeOf : Nat → Option TcMode
  | 0 => some .freeRun
  | 1 => some .recordRun
  | _ => none

/-- A source class byte: 0x01 console, 0x02 accessory (Table 11-1). -/
def classOf : Nat → Option SourceClass
  | 1 => some .console
  | 2 => some .accessory
  | _ => none

/-- The `L` step values of a LOAD LADDER, 2 bytes each from argument offset 2. -/
def ladderSteps (args : List Byte) (count : Nat) : List Nat :=
  (List.range count).map fun i => fieldAt args (2 + 2 * i) 2

/-- A 4-byte label (Table 11-9). -/
def labelAt (bytes : List Byte) (off : Nat) : Label :=
  ⟨fieldAt bytes off 1, fieldAt bytes (off + 1) 1, fieldAt bytes (off + 2) 1, fieldAt bytes (off + 3) 1⟩

end Sys2Proof.Machine
end

