-- ==== Sys2Proof/Machine/Flags.lean ====
section
/-! DEFINITION. Flag bytes and codes of the layouts of chapter 11, and the flags of records and entries. -/

namespace Sys2Proof.Machine

/-- A byte from its eight bits, bit 0 first. -/
def flagByte (bits : List Bool) : Nat := bits.foldr (fun b v => (if b then 1 else 0) + 2 * v) 0

/-- One bit as a number. -/
def bit (b : Bool) : Nat := if b then 1 else 0

/-- Flags of the unit header, bits 0 to 4, and bit 5: the stamp is from the record-run counter (Table 11-7). -/
def unitFlags (openLost truncated concealed stampRepeat flat recordRun : Bool) : Nat :=
  flagByte [openLost, truncated, concealed, stampRepeat, flat, recordRun]

/-- Flags of a segment: bit 0 last, bit 1 damaged (Table 11-6). -/
def segmentFlags (g : Segment) : Nat := flagByte [g.last, g.damaged]

/-- Flags of a take: SHORT, CONCEALED, FLAT, no proxy unit (Table 11-10). -/
def takeFlags (t : TakeRec) : Nat := flagByte [t.short, t.concealed, t.flat, t.proxy == 0]

/-- Byte 63 of a take record sent by READ TAKE (R197). -/
def takeStatus (t : TakeRec) : Nat :=
  flagByte [t.aF, t.aP, t.bP, t.stopPending.isSome, t.e.isNone]

def Stream.byte : Stream → Nat
  | .f => 0
  | .p => 1

def laneByte : LaneId → Nat
  | .a => 0
  | .b => 1

/-- Source class as a REPORT carries it (Table 11-1's values). -/
def SourceClass.byte : SourceClass → Nat
  | .console => 1
  | .accessory => 2

def TcMode.byte : TcMode → Nat
  | .freeRun => 0
  | .recordRun => 1

def Feed.byte : Feed → Nat
  | .off => 0
  | .takes => 1
  | .always => 2

def TrigMode.byte : TrigMode → Nat
  | .off => 0
  | .rising => 1
  | .falling => 2
  | .both => 3

/-- End reason codes (Table 11-10). -/
def EndReason.byte : EndReason → Nat
  | .stop => 1
  | .trigger => 2
  | .spill => 3
  | .restart => 4
  | .empty => 5

/-- State byte of a take record (R197). -/
def TakeState.byte : TakeState → Nat
  | .opened => 1
  | .closing => 2
  | .closed => 3

/-- Reply codes (Table 11-11). -/
def ReplyCode.byte : ReplyCode → Nat
  | .done => 0x00
  | .doneClamped => 0x01
  | .doneConflict => 0x02
  | .refusedClass => 0x10
  | .refusedBusy => 0x11
  | .refusedState => 0x12
  | .refusedRange => 0x13
  | .refusedFull => 0x14
  | .refusedUnknown => 0x15
  | .refusedFormat => 0x16

/-- A reply whose code begins DONE took its effect (R181). -/
def ReplyCode.isDone : ReplyCode → Bool
  | .done | .doneClamped | .doneConflict => true
  | .refusedClass | .refusedBusy | .refusedState | .refusedRange | .refusedFull | .refusedUnknown
  | .refusedFormat => false

def FaultKind.byte : FaultKind → Nat
  | .header => 1
  | .table => 2
  | .tiles => 3

/-- A finished stream state (Table 2-5). -/
def StreamState.finished : StreamState → Bool
  | .waiting | .coding => false
  | .stored | .spilled | .abandoned | .notCoded => true

/-- A record is done with when its F state is finished and its P state is finished or absent (R28). -/
def PicRecord.finished (r : PicRecord) : Bool :=
  r.fState.finished && (match r.pState with | none => true | some x => x.finished)

/-- The flags of a record's END entry, as they stand in the record (Table 2-7). -/
def PicRecord.endEntry (r : PicRecord) : FifoEntry := .endE r.source r.openLost r.truncated r.concealed

/-- The stamp a unit carries: its record-run stamp when it has one, otherwise its free-run stamp (R143, R165). -/
def DirEntry.stamp (e : DirEntry) : Label := e.rrStamp.getD e.frStamp

def PicRecord.stamp (r : PicRecord) : Label := r.rrStamp.getD r.frStamp

/-- The need of an entry for a lane. -/
def DirEntry.needFor (e : DirEntry) : LaneId → Bool
  | .a => e.needA
  | .b => e.needB

/-- An entry whose unit a lane has sent: sent-on flag set, need cleared (R107, R166). -/
def DirEntry.markSent (e : DirEntry) : LaneId → DirEntry
  | .a => { e with sentA := true, needA := false }
  | .b => { e with sentB := true, needB := false }

/-- An entry without its need for a lane (R168). -/
def DirEntry.clearNeed (e : DirEntry) : LaneId → DirEntry
  | .a => { e with needA := false }
  | .b => { e with needB := false }

/-- The fault-reported flag of an entry for a lane (R114). -/
def DirEntry.faultOn (e : DirEntry) : LaneId → Bool
  | .a => e.faultA
  | .b => e.faultB

/-- An entry with its fault-reported flag set for a lane (R114). -/
def DirEntry.markFault (e : DirEntry) : LaneId → DirEntry
  | .a => { e with faultA := true }
  | .b => { e with faultB := true }

/-- The state of a stream in a record. -/
def PicRecord.stateOf (r : PicRecord) : Stream → Option StreamState
  | .f => some r.fState
  | .p => r.pState

/-- A record with a stream's state written. -/
def PicRecord.withState (r : PicRecord) (st : Stream) (x : StreamState) : PicRecord :=
  match st with
  | .f => { r with fState := x }
  | .p => { r with pState := some x }

end Sys2Proof.Machine
end

