-- ==== Sys2Proof/Machine/Ops.lean ====
section
/-! DEFINITION. The shared operations: saturating counters, the two checks of R192, the DRAM, the accessors of
the state's parts, the tables effective for a source number, and the queuing of reports. -/

namespace Sys2Proof.Machine

/-! ## Saturating numbers -/

/-- Add to a 32-bit counter that saturates at its largest value (R38, R56, R77, R94, R115, R134, R159, R175, R190). -/
def addSat (c k : Nat) : Nat := min (c + k) 4294967295

/-- A counter advanced by one. -/
def bump (c : Nat) : Nat := addSat c 1

/-- Add to a count that stops at 65,535 (gap count, credit count, stall count, lost count, drop count). -/
def add16 (c k : Nat) : Nat := min (c + k) 65535

/-! ## The checks of R192 -/

/-- One shift of the CRC-16: polynomial 0x1021, most significant bit first. -/
def crc16Shift (c : BitVec 16) : BitVec 16 := if c.msb then (c <<< 1) ^^^ 0x1021#16 else c <<< 1

def crc16Byte (c : BitVec 16) (b : Byte) : BitVec 16 :=
  Nat.repeat crc16Shift 8 (c ^^^ (b.setWidth 16 <<< 8))

/-- The header check: CRC-16, register from 0xFFFF, no reflection, no final inversion (R192). -/
def crc16 (bytes : List Byte) : BitVec 16 := bytes.foldl crc16Byte 0xFFFF#16

/-- One shift of the CRC-32 in reflected form: constant 0xEDB88320, least significant bit first. -/
def crc32Shift (c : BitVec 32) : BitVec 32 := if c.getLsbD 0 then (c >>> 1) ^^^ 0xEDB88320#32 else c >>> 1

def crc32Byte (c : BitVec 32) (b : Byte) : BitVec 32 := Nat.repeat crc32Shift 8 (c ^^^ b.setWidth 32)

/-- The payload CRC-32: register from 0xFFFFFFFF, result XORed with 0xFFFFFFFF (R192). -/
def crc32 (bytes : List Byte) : BitVec 32 := (bytes.foldl crc32Byte 0xFFFFFFFF#32) ^^^ 0xFFFFFFFF#32

/-! ## The DRAM (R95) -/

/-- Bytes of the store: 65,536 pages of 64 KiB. -/
def storeBytes : Nat := 4294967296

/-- Bytes of a page. -/
def pageBytes : Nat := 65536

/-- What an unlisted byte reads as (log 6). -/
def unlistedByte : Byte := 0

/-- The byte at an address. -/
def Mem.read : List Host.Cell → Nat → Byte
  | [], _ => unlistedByte
  | (x, b) :: rest, a => if x = a then b else Mem.read rest a

/-- Put a byte at an address, keeping the canonical form. -/
def Mem.put : List Host.Cell → Nat → Byte → List Host.Cell
  | [], a, b => if b = unlistedByte then [] else [(a, b)]
  | (x, c) :: rest, a, b =>
    if a < x then (if b = unlistedByte then (x, c) :: rest else (a, b) :: (x, c) :: rest)
    else if a = x then (if b = unlistedByte then rest else (a, b) :: rest)
    else (x, c) :: Mem.put rest a b

/-- Write a byte; outside the 4 GiB there is nothing to write. -/
def Mem.write (m : List Host.Cell) (a : Nat) (b : Byte) : List Host.Cell :=
  if a < storeBytes then Mem.put m a b else m

/-- The listed addresses rise strictly from `lo`, lie inside the store, and list no byte an unlisted address
reads as. -/
def Mem.wfFrom : Nat → List Host.Cell → Bool
  | _, [] => true
  | lo, (x, b) :: rest =>
    decide (lo ≤ x) && decide (x < storeBytes) && decide (b ≠ unlistedByte) && Mem.wfFrom (x + 1) rest

/-- The canonical form of the DRAM. -/
def Mem.wf (m : List Host.Cell) : Bool := Mem.wfFrom 0 m

/-- Bytes of a ring. -/
def Ring.bytes (r : Ring) : Nat := r.pages * pageBytes

/-- Granules of a ring: 1,024 a page (6.1). -/
def Ring.granules (r : Ring) : Nat := r.pages * 1024

/-- The DRAM address of a byte offset inside a ring, taken modulo the ring size (R95). -/
def Ring.address (r : Ring) (x : Nat) : Nat := r.base * pageBytes + x % r.bytes

/-- Write bytes into a ring from a byte offset on, wrapping at the ring's end (R95, R102). -/
def Mem.writeRing (r : Ring) : List Host.Cell → Nat → List Byte → List Host.Cell
  | m, _, [] => m
  | m, x, b :: rest => Mem.writeRing r (Mem.write m (r.address x) b) (x + 1) rest

/-- The words in error once bytes have been written into a ring: a written word gets a fresh code (R113). -/
def clearErrors (r : Ring) (x n : Nat) (bad : List BadWord) : List BadWord :=
  bad.filter fun w => !(List.range n).any fun i => r.address (x + i) / 8 == w.word

/-! ## Parts of the state by stream, lane and slot -/

/-- The tables of a stream. -/
def State.tables (s : State) : Stream → StreamTables
  | .f => s.prs.f
  | .p => s.prs.p

def State.setTables (s : State) (st : Stream) (t : StreamTables) : State :=
  match st with
  | .f => { s with prs := { s.prs with f := t } }
  | .p => { s with prs := { s.prs with p := t } }

/-- The context record of a stream. -/
def State.ctx (s : State) : Stream → Ctx
  | .f => s.scF
  | .p => s.scP

def State.setCtx (s : State) (st : Stream) (c : Ctx) : State :=
  match st with
  | .f => { s with scF := c }
  | .p => { s with scP := c }

/-- The working set of a stream: the TC's while the context is loaded, the record's otherwise (4.4). -/
def State.ws (s : State) (st : Stream) : WorkingSet :=
  if s.tc.loaded = some st then s.tc.ws else (s.ctx st).ws

def State.setWs (s : State) (st : Stream) (w : WorkingSet) : State :=
  if s.tc.loaded = some st then { s with tc := { s.tc with ws := w } }
  else s.setCtx st { s.ctx st with ws := w }

/-- The ring state of a stream. -/
def State.ringState (s : State) : Stream → RingState
  | .f => s.fsc.f
  | .p => s.fsc.p

def State.setRingState (s : State) (st : Stream) (r : RingState) : State :=
  match st with
  | .f => { s with fsc := { s.fsc with f := r } }
  | .p => { s with fsc := { s.fsc with p := r } }

/-- The lane sender of a lane. -/
def State.lane (s : State) : LaneId → LaneSender
  | .a => s.lsA
  | .b => s.lsB

def State.setLane (s : State) (l : LaneId) (x : LaneSender) : State :=
  match l with
  | .a => { s with lsA := x }
  | .b => { s with lsB := x }

/-- The hold of a lane (R148). -/
def State.hold (s : State) : LaneId → List Item
  | .a => s.tkc.holdA
  | .b => s.tkc.holdB

def State.setHold (s : State) (l : LaneId) (x : List Item) : State :=
  match l with
  | .a => { s with tkc := { s.tkc with holdA := x } }
  | .b => { s with tkc := { s.tkc with holdB := x } }

def Ps.slot (p : Ps) : SlotId → Option ProxyRow
  | .one => p.slot1
  | .two => p.slot2

def Ps.setSlot (p : Ps) (i : SlotId) (x : Option ProxyRow) : Ps :=
  match i with
  | .one => { p with slot1 := x }
  | .two => { p with slot2 := x }

/-- The older held row and its slot (R49). -/
def Ps.older (p : Ps) : Option (SlotId × ProxyRow) :=
  match p.slot1, p.slot2 with
  | none, none => none
  | some r, none => some (.one, r)
  | none, some r => some (.two, r)
  | some r1, some r2 => if p.slot2Older then some (.two, r2) else some (.one, r1)

/-! ## Tables effective for a source number (R1) -/

/-- The profile effective for a source number, valid or not (R1). -/
def StreamTables.profileAt (t : StreamTables) (n : Nat) : Option ProfileRec :=
  match t.pendingProfile with
  | some p => if p.effective ≤ n then some p.record else t.profile
  | none => t.profile

/-- The valid profile effective for a source number, if there is one. -/
def StreamTables.validAt (t : StreamTables) (n : Nat) : Option ProfileRec :=
  match t.profileAt n with
  | some p => if p.valid then some p else none
  | none => none

/-- The ladder effective for a source number (R1). -/
def StreamTables.ladderAt (t : StreamTables) (n : Nat) : Option (List Nat) :=
  match t.pendingLadder with
  | some l => if l.effective ≤ n then some l.steps else t.ladder
  | none => t.ladder

/-- The valid active profile of a stream, if there is one. -/
def StreamTables.active (t : StreamTables) : Option ProfileRec :=
  match t.profile with
  | some p => if p.valid then some p else none
  | none => none

/-- The expected byte count after row r: floor(T (r + 1) / n) (R6). -/
def ProfileRec.expected (p : ProfileRec) (r : Nat) : Nat := p.target * (r + 1) / p.rows

/-- Reservation size in granules (R7, R97). -/
def ProfileRec.granules (p : ProfileRec) : Nat := p.reservation / 64

/-- The step of a rung in a ladder (R83); behind the ladder's end it is a free value (log 42). -/
def ladderStep (steps : List Nat) (q : Nat) : Nat :=
  match steps[q]? with
  | some v => v
  | none => Config.stepBeyond steps q

/-- The step of the current rung in the active ladder (R83). -/
def State.rungStep (s : State) (st : Stream) : Nat := ladderStep ((s.tables st).ladder.getD []) (s.ws st).q

/-! ## Picture Table -/

/-- The record of a source number (2.4). -/
def State.record (s : State) (source : Nat) : Option PicRecord :=
  s.ti.table.find? fun r => r.source == source

def modifyRecord (source : Nat) (f : PicRecord → PicRecord) (table : List PicRecord) : List PicRecord :=
  table.map fun r => if r.source == source then f r else r

/-- Write fields of the record of a source number, if it exists. -/
def State.editRecord (s : State) (source : Nat) (f : PicRecord → PicRecord) : State :=
  { s with ti := { s.ti with table := modifyRecord source f s.ti.table } }

/-! ## Unit Directories -/

/-- Granules of a unit: ceil(length / 64) (6.1). -/
def DirEntry.extent (e : DirEntry) : Nat := (e.length + 63) / 64

/-- The entry of a source number. -/
def RingState.entry (r : RingState) (source : Nat) : Option DirEntry := r.dir.find? fun e => e.source == source

def modifyEntry (source : Nat) (f : DirEntry → DirEntry) (dir : List DirEntry) : List DirEntry :=
  dir.map fun e => if e.source == source then f e else e

/-- Write fields of the entry of a source number, if it exists. -/
def State.editEntry (s : State) (st : Stream) (source : Nat) (f : DirEntry → DirEntry) : State :=
  s.setRingState st { s.ringState st with dir := modifyEntry source f (s.ringState st).dir }

/-! ## Report queues (R185, R186) -/

/-- Capacity of a lane's report queue (10.6). -/
def reportCapacity : LaneId → Nat
  | .a => 32
  | .b => 8

/-- A FREE transmitter takes the oldest queued report, whatever the list and the credit (R162, case 1; R167). -/
def LaneSender.startReport (x : LaneSender) : LaneSender :=
  match x.tx, x.queue with
  | none, r :: rest =>
    { x with tx := some (.report r), queue := rest, counters := { x.counters with reports := bump x.counters.reports } }
  | _, _ => x

/-- Queue a report: admitted with the lost count while there is room, discarded and counted otherwise
(R185, R186). A FREE transmitter makes its choice at once (R162). -/
def LaneSender.enqueue (x : LaneSender) (capacity : Nat) (r : Report) : LaneSender :=
  if x.queue.length < capacity then
    ({ x with queue := x.queue ++ [⟨r, x.lost⟩], lost := 0 } : LaneSender).startReport
  else
    { x with lost := add16 x.lost 1
             counters := { x.counters with refusedReports := bump x.counters.refusedReports } }

/-- Queue a report on a lane. -/
def State.report (s : State) (l : LaneId) (r : Report) : State :=
  s.setLane l ((s.lane l).enqueue (reportCapacity l) r)

/-- Queue a notice: Lane A carries every notice (R187). -/
def State.notify (s : State) (n : Notice) : State := s.report .a (.notice n)

/-- The lane of a source class's replies (R180). -/
def SourceClass.lane : SourceClass → LaneId
  | .console => .a
  | .accessory => .b

/-- Queue a reply to a directive of the given class, code and tag (R180). -/
def State.reply (s : State) (cls : SourceClass) (code tag : Byte) (rc : ReplyCode) (data : ReplyData) : State :=
  s.report cls.lane (.reply cls code tag rc data)

end Sys2Proof.Machine
end

