-- ==== Sys2Proof/Machine/Store.lean ====
section
/-! DEFINITION. The Frame Store Controller's own operations: segment reads with ECC (R112 to R114), the header
fields written at segment 0 (R165, R196), ordinary release (R108, R109), and the discard of a unit (R103). -/

namespace Sys2Proof.Machine

/-- A label's four bytes (Table 11-9). -/
def labelBytes (l : Label) : List Byte := be 1 l.hours ++ be 1 l.minutes ++ be 1 l.seconds ++ be 1 l.frames

/-- A label that may be absent: hours 0xFF and the rest 0 (R197). -/
def optLabelBytes : Option Label → List Byte
  | some l => labelBytes l
  | none => be 1 0xFF ++ be 3 0

/-! ## Segment reads -/

/-- Unit bytes of segment i: from 4,096 i up to the smaller of 4,096 (i + 1) and the length (R112). -/
def segmentLow (i : Nat) : Nat := 4096 * i

def segmentHigh (length i : Nat) : Nat := min (4096 * (i + 1)) length

/-- Number of segments of a unit: ceil(length / 4,096) (9.4). -/
def segmentCount (length : Nat) : Nat := (length + 4095) / 4096

/-- The error a word shows at this read (R113): an error it has already shown stays until the word is written
again, and one that appears now is a free value (log 8). -/
def State.wordErrorAt (s : State) (word : Nat) : Option WordError :=
  match (s.wordErrors.find? fun w => w.word == word), Config.freshWordError s.freeTick word with
  | some ⟨_, .uncorrectable b⟩, _ => some (.uncorrectable b)
  | some ⟨_, .single⟩, some (.uncorrectable b) => some (.uncorrectable b)
  | some ⟨_, .single⟩, _ => some .single
  | none, x => x

/-- The eight bytes a word is delivered as: corrected when one bit is wrong, as read when uncorrectable (R113). -/
def State.wordBytes (s : State) (address : Nat) : List Byte :=
  match s.wordErrorAt (address / 8) with
  | some (.uncorrectable b) => be 8 b.toNat
  | some .single | none => (List.range 8).map fun j => Mem.read s.dram (address + j)

/-- The unit bytes at which the words of a segment begin. -/
def segmentWords (length i : Nat) : List Nat :=
  (List.range ((segmentHigh length i - segmentLow i + 7) / 8)).map fun k => segmentLow i + 8 * k

/-- The DRAM address of a unit byte (R112). -/
def unitAddress (r : Ring) (e : DirEntry) (u : Nat) : Nat := r.address (e.offset * 64 + u)

/-- The data of a segment as read (R112, R113). -/
def State.segmentData (s : State) (r : Ring) (e : DirEntry) (i : Nat) : List Byte :=
  ((segmentWords e.length i).flatMap fun u => s.wordBytes (unitAddress r e u)).take
    (segmentHigh e.length i - segmentLow i)

/-- The error of the word at a unit byte. -/
def State.unitWordError (s : State) (r : Ring) (e : DirEntry) (u : Nat) : Option WordError :=
  s.wordErrorAt (unitAddress r e u / 8)

def isSingle : Option WordError → Bool
  | some .single => true
  | some (.uncorrectable _) | none => false

def isUncorrectable : Option WordError → Bool
  | some (.uncorrectable _) => true
  | some .single | none => false

/-- Words of the segment delivered corrected. -/
def State.singleWords (s : State) (r : Ring) (e : DirEntry) (i : Nat) : List Nat :=
  (segmentWords e.length i).filter fun u => isSingle (s.unitWordError r e u)

/-- Words of the segment that are uncorrectable, in order. -/
def State.badWords (s : State) (r : Ring) (e : DirEntry) (i : Nat) : List Nat :=
  (segmentWords e.length i).filter fun u => isUncorrectable (s.unitWordError r e u)

/-- The words in error once the segment has been read: what each of its words showed is kept. -/
def State.errorsAfterRead (s : State) (r : Ring) (e : DirEntry) (i : Nat) : List BadWord :=
  let words := (segmentWords e.length i).map fun u => unitAddress r e u / 8
  (s.wordErrors.filter fun w => !words.contains w.word) ++
    words.filterMap fun w => (s.wordErrorAt w).map fun x => ⟨w, x⟩

/-- Where a unit byte lies (Table 6-5): header bytes 0 to 63, then the row offset table, then the tiles. A word is
placed by its first byte (the model's choice for a word that holds the table's end, log 44). -/
def faultKindAt (e : DirEntry) (u : Nat) : FaultKind :=
  if u < 64 then .header else if u < 64 + 4 * e.rows then .table else .tiles

/-- The fault record of an uncorrectable word at unit byte `u` (Table 6-5). -/
def faultRecord (r : Ring) (e : DirEntry) (l : LaneId) (st : Stream) (i u : Nat) : FaultRecord :=
  { kind := faultKindAt e u, requester := l, stream := st, source := e.source
    page := unitAddress r e u / pageBytes, offset := unitAddress r e u % pageBytes, segment := i }

/-- The flag byte of a header with bit 5 set to whether the stamp is from the record-run counter (R165). -/
def stampFlag (flags : Nat) (recordRun : Bool) : Nat := flags % 32 + 32 * bit recordRun + flags / 64 * 64

/-- Segment 0 as sent: take number, stamp, the flag of the counter that gave it, and the header check over the
header as it then stands (R165, R196). -/
def withSendFields (e : DirEntry) (data : List Byte) : List Byte :=
  let h := data.take 1 ++ be 1 (stampFlag (fieldAt data 1 1) e.rrStamp.isSome) ++ (data.drop 2).take 6 ++
    be 2 (e.take.getD 0) ++ labelBytes e.stamp ++ (data.drop 14).take 48
  h ++ be 2 (crc16 h).toNat ++ data.drop 64

/-- The data a segment is sent with. -/
def State.sendData (s : State) (r : Ring) (e : DirEntry) (i : Nat) : List Byte :=
  if i = 0 then withSendFields e (s.segmentData r e i) else s.segmentData r e i

/-- The FSC's counters, kept errors and free-value counter after the read of a segment (R113, R114). -/
def State.countRead (s : State) (r : Ring) (e : DirEntry) (i : Nat) : State :=
  { s with fsc := { s.fsc with corrected := addSat s.fsc.corrected (s.singleWords r e i).length
                               uncorrectable := addSat s.fsc.uncorrectable (s.badWords r e i).length }
           wordErrors := s.errorsAfterRead r e i
           freeTick := s.freeTick + 1 }

/-- The first uncorrectable word of a unit on a lane: flag set, last-fault store, FAULT notice (R114). -/
def State.raiseFault (s : State) (l : LaneId) (st : Stream) (k : FaultRecord) : State :=
  let s1 := s.editEntry st k.source fun e => e.markFault l
  ({ s1 with fsc := { s1.fsc with lastFault := some k } } : State).notify (.fault k)

/-! ## Ordinary release -/

/-- Retention (R108): the TKC is armed and the source number is above the newest less Pmax. -/
def State.retained (s : State) (e : DirEntry) : Bool :=
  s.tkc.armed && (match s.fsc.newest with
    | some n => decide (n < e.source + s.tkc.pmax)
    | none => false)

/-- What ordinary release may let go: needed by no lane and not retained (R109). -/
def State.releasable (s : State) (e : DirEntry) : Bool := !e.needA && !e.needB && !s.retained e

/-- The ring after entries have left from its tail: directory `rest`, `gone` released. -/
def RingState.dropTail (r : RingState) (gone rest : List DirEntry) : RingState :=
  { r with
    dir := rest
    allocated := r.allocated - (gone.map DirEntry.extent).sum
    tail := match rest with
      | e :: _ => e.offset
      | [] => r.head }

/-- Ordinary release on a stream's ring (R109). -/
def State.ordinaryRelease (s : State) (st : Stream) : State :=
  let r := s.ringState st
  let gone := r.dir.takeWhile s.releasable
  if gone.isEmpty then s
  else
    let r1 := r.dropTail gone (r.dir.dropWhile s.releasable)
    s.setRingState st { r1 with counters :=
      { r1.counters with ordinaryReleases := addSat r1.counters.ordinaryReleases gone.length } }

/-! ## Discard of a unit in progress -/

/-- Give up the unit in progress: its reservation is voided and counted; with none held nothing changes (R103). -/
def State.discardUnit (s : State) (st : Stream) : State :=
  let r := s.ringState st
  match r.reservation with
  | none => s
  | some _ => s.setRingState st { r with
      reservation := none, running := 0, rowOffsets := []
      counters := { r.counters with discardedUnits := bump r.counters.discardedUnits } }

end Sys2Proof.Machine
end

