-- ==== Sys2Proof/Machine/Lanes.lean ====
section
/-! DEFINITION. The lane senders (chapter 9): the choice of the next packet, the send list, Lane B's drops, stalls,
and the meanings of CREDIT_PULSE, LANE_STALL and LANE_PACKET_SENT. -/

namespace Sys2Proof.Machine

/-- The segment index a unit's send goes on with: the next of the unit in progress, 0 when none is (R164). -/
def LaneSender.nextIndex (x : LaneSender) : Nat :=
  match x.inProgress with
  | some u => u.next
  | none => 0

/-- An item is the unit in progress. -/
def LaneSender.begun (x : LaneSender) (st : Stream) (source : Nat) : Bool :=
  match x.inProgress with
  | some u => u.stream == st && u.source == source
  | none => false

/-- The Lane B drop count of a segment: the pending drop count on Lane B's segment 0, otherwise 0 (R169). -/
def dropField (l : LaneId) (x : LaneSender) (i : Nat) : Nat :=
  match l with
  | .a => 0
  | .b => if i = 0 then x.dropPending else 0

/-- The segment a lane sends next of a unit (R164). -/
def State.segmentOf (s : State) (l : LaneId) (st : Stream) (r : Ring) (e : DirEntry) (i : Nat) : Segment :=
  { stream := st, source := e.source, index := i
    last := i + 1 == segmentCount e.length
    damaged := !(s.badWords r e i).isEmpty
    dropCount := dropField l (s.lane l) i
    data := s.sendData r e i }

/-- The lane sender once it has chosen a segment: one credit block taken, the unit in progress advanced, the
transmitter SENDING, Lane B's drop count carried (R163, R164, R169). -/
def LaneSender.sendSegment (x : LaneSender) (l : LaneId) (g : Segment) : LaneSender :=
  { x with
    credit := x.credit - 1
    inProgress := some ⟨g.stream, g.source, g.index + 1⟩
    tx := some (.segment g)
    dropPending := if l = .b ∧ g.index = 0 then 0 else x.dropPending
    counters := { x.counters with
      segments := bump x.counters.segments
      damaged := addSat x.counters.damaged (bit g.damaged) } }

/-- Choose and read a segment of the unit at the head (R112 to R114, R162 case 3, R164). -/
def State.startSegment (s : State) (l : LaneId) (st : Stream) (source : Nat) : State :=
  match (s.ringState st).entry source, (s.tables st).ring with
  | some e, some r =>
    let i := (s.lane l).nextIndex
    let s1 := (s.setLane l ((s.lane l).sendSegment l (s.segmentOf l st r e i))).countRead r e i
    match s.badWords r e i with
    | u :: _ => if e.faultOn l then s1 else s1.raiseFault l st (faultRecord r e l st i u)
    | [] => s1
  | _, _ => s

/-- The choice of the next packet by a FREE transmitter (R162). -/
def State.choose (s : State) (l : LaneId) : State :=
  match (s.lane l).tx with
  | some _ => s
  | none =>
    match (s.lane l).queue with
    | _ :: _ => s.setLane l (s.lane l).startReport
    | [] =>
      match (s.lane l).items with
      | [] => s
      | .marker m :: _ => s.setLane l { s.lane l with tx := some (.marker m) }
      | .unit st source :: _ => if (s.lane l).credit = 0 then s else s.startSegment l st source

/-- A choice made because the head of the list changed (R162). -/
def State.chooseIfHeadChanged (s : State) (l : LaneId) (before : Option Item) : State :=
  if (s.lane l).items.head? = before then s else s.choose l

/-! ## Lane B's backlog -/

/-- An item of a list that counts toward the backlog: a unit whose send has not begun (R168). -/
def LaneSender.unsent (x : LaneSender) : Item → Bool
  | .unit st source => !x.begun st source
  | .marker _ => false

/-- The backlog (R168). -/
def LaneSender.backlog (x : LaneSender) : Nat := (x.items.filter x.unsent).length

/-- The list without its `k` oldest unsent units. -/
def LaneSender.dropOldest (x : LaneSender) : Nat → List Item → List Item
  | _, [] => []
  | 0, items => items
  | k + 1, i :: rest => if x.unsent i then x.dropOldest k rest else i :: x.dropOldest (k + 1) rest

/-- The units that `dropOldest` removes. -/
def LaneSender.oldest (x : LaneSender) (k : Nat) : List Item := (x.items.filter x.unsent).take k

/-- Clear the need of a lane on the units of a list (R168). -/
def State.clearNeeds (s : State) (l : LaneId) : List Item → State
  | [] => s
  | .unit st source :: rest => (s.editEntry st source fun e => e.clearNeed l).clearNeeds l rest
  | .marker _ :: rest => s.clearNeeds l rest

/-- LS-B's backlog test, run at each append of a unit reference (R168). -/
def State.backlogTest (s : State) : State :=
  let x := s.lsB
  let k := x.backlog - s.prs.lanes.bmax
  if k = 0 then s
  else
    let s1 := s.clearNeeds .b (x.oldest k)
    ({ s1 with lsB := { s1.lsB with
        items := x.dropOldest k x.items
        dropPending := add16 s1.lsB.dropPending k
        counters := { s1.lsB.counters with backlogDrops := addSat s1.lsB.counters.backlogDrops k } } } : State).chooseIfHeadChanged
      .b x.items.head?

/-! ## The send list -/

/-- Append an item to a lane's list; a FREE transmitter with an empty list makes its choice (R160, R162). -/
def State.pushItem (s : State) (l : LaneId) (i : Item) : State :=
  let s1 := s.setLane l { s.lane l with items := (s.lane l).items ++ [i] }
  if (s.lane l).items.isEmpty then s1.choose l else s1

/-- No unit with this source number or a higher one has been in LS-B's list since the last reset (R161). -/
def LaneSender.inOrder (x : LaneSender) (source : Nat) : Bool :=
  match x.lastUnit with
  | some n => decide (n < source)
  | none => true

/-- LS-B's list may take a unit in without breaking the law of R161: it is above every unit that has been in the list,
and behind a take's TAKE OPEN it is of that take. -/
def State.lawfulOnB (s : State) (st : Stream) (source : Nat) : Bool :=
  s.lsB.inOrder source &&
  (match s.lsB.openTake with
    | some n => ((s.ringState st).entry source).bind DirEntry.take == some n
    | none => true)

/-- Append a unit reference (R160). LS-B then runs its backlog test (R168); a unit whose send would break the law of
R161 it drops at its append, and the unit's need is cleared (logs 18 and 37). -/
def State.pushUnit (s : State) (l : LaneId) (st : Stream) (source : Nat) : State :=
  match l with
  | .a => s.pushItem .a (.unit st source)
  | .b =>
    if s.lawfulOnB st source then
      ((s.setLane .b { s.lsB with lastUnit := some source }).pushItem .b (.unit st source)).backlogTest
    else s.clearNeeds .b [.unit st source]

/-- Markers in a list. -/
def markerCount (items : List Item) : Nat :=
  (items.filter fun i => match i with | .marker _ => true | .unit _ _ => false).length

/-- Append a marker, with the limit on TAKE OPEN markers and the unannounced take (R160). -/
def State.pushMarker (s : State) (l : LaneId) (m : Marker) : State :=
  match m with
  | .takeOpen n _ _ _ _ =>
    if markerCount (s.lane l).items ≤ 126 then
      (s.setLane l { s.lane l with openTake := some n }).pushItem l (.marker m)
    else s.setLane l { s.lane l with
      unannounced := some n
      counters := { (s.lane l).counters with markerRefusals := bump (s.lane l).counters.markerRefusals } }
  | .takeClose t =>
    if (s.lane l).unannounced = some t.number then s.setLane l { s.lane l with unannounced := none }
    else (s.setLane l { s.lane l with openTake := none }).pushItem l (.marker m)

/-- Append an item of either kind. -/
def State.push (s : State) (l : LaneId) : Item → State
  | .unit st source => s.pushUnit l st source
  | .marker m => s.pushMarker l m

/-- Append the items of a list in order. -/
def State.pushAll (s : State) (l : LaneId) : List Item → State
  | [] => s
  | i :: rest => (s.push l i).pushAll l rest

/-! ## Ring-driven drops -/

/-- LS-B's side of a drop by the ring: the unit leaves the list, a send that had begun is cut short, and the drop
is counted (R111, R170). -/
def LaneSender.ringDrop (x : LaneSender) (st : Stream) (source : Nat) : LaneSender :=
  { x with
    items := x.items.filter fun i => decide (i ≠ .unit st source)
    inProgress := if x.begun st source then none else x.inProgress
    dropPending := add16 x.dropPending 1
    counters := { x.counters with
      ringDrops := bump x.counters.ringDrops
      cutShort := if x.begun st source then bump x.counters.cutShort else x.counters.cutShort } }

/-- A drop taken by LS-B; a FREE transmitter whose head changed makes its choice (R162, R170). -/
def State.ringDropB (s : State) (st : Stream) (source : Nat) : State :=
  ({ s with lsB := s.lsB.ringDrop st source } : State).chooseIfHeadChanged .b s.lsB.items.head?

/-! ## Stalls -/

/-- A lane is waiting: its head is a unit, no segment of the lane is being sent, and it has no credit (R171). -/
def LaneSender.waiting (x : LaneSender) : Bool :=
  (match x.items with | .unit _ _ :: _ => true | .marker _ :: _ | [] => false) &&
  (match x.tx with | some (.segment _) => false | some (.marker _) | some (.report _) | none => true) &&
  x.credit == 0

/-- The stall of a lane that is due to be reported: the count has reached 32 with the latch clear (R171). -/
def LaneSender.stallDue (x : LaneSender) : Option (Stream × Nat) :=
  if 32 ≤ x.stall ∧ x.stallLatch = false then
    match x.items with
    | .unit st source :: _ => some (st, source)
    | .marker _ :: _ | [] => none
  else none

/-- Report a stall that is due (R171). -/
def State.takeStall (s : State) (l : LaneId) : State :=
  match (s.lane l).stallDue with
  | none => s
  | some (st, source) =>
    (s.setLane l { s.lane l with
      stallLatch := true
      counters := { (s.lane l).counters with stalls := bump (s.lane l).counters.stalls } }).notify
      (.laneStall l st source (s.lane l).nextIndex 32)

/-- A waiting lane counts a picture open (R171). -/
def LaneSender.noteOpen (x : LaneSender) : LaneSender :=
  if x.waiting then { x with stall := add16 x.stall 1 } else x

/-- The lane sender's part of a picture open (R171): a waiting lane counts it, and at the thirty-second LANE STALL is
queued in the same event. -/
def State.countOpen (s : State) (l : LaneId) : State := (s.setLane l (s.lane l).noteOpen).takeStall l

/-- LANE_STALL (R171): the stall that is due; the open that brings it about takes it itself (log 2). -/
def execLaneStall (l : LaneId) (s : State) : Host.Outcome State Fault Refusal := .next (s.takeStall l)

/-! ## Credit -/

/-- The end of a stall: the latch clears, LANE RESUMED carries the count, and the count returns to 0 (R172). -/
def State.resume (s : State) (l : LaneId) : State :=
  let x := s.lane l
  let s1 := s.setLane l { x with stall := 0, stallLatch := false }
  if x.stallLatch then s1.notify (.laneResumed l x.stall) else s1

/-- One more credit block, or an excess pulse (R163). -/
def LaneSender.addCredit (x : LaneSender) : LaneSender :=
  let c := { x.counters with pulses := bump x.counters.pulses }
  if x.credit = 65535 then { x with counters := { c with excess := bump c.excess } }
  else { x with credit := x.credit + 1, counters := c }

/-- The choice a credit pulse prompts: a FREE transmitter whose head is a unit (R162). -/
def State.chooseOnCredit (s : State) (l : LaneId) : State :=
  match (s.lane l).items with
  | .unit _ _ :: _ => s.choose l
  | .marker _ :: _ | [] => s

/-- A credit pulse (R163, R172); a stall due is reported first (log 2). -/
def State.creditPulse (s : State) (l : LaneId) : State :=
  let s1 := (s.takeStall l).resume l
  (s1.setLane l (s1.lane l).addCredit).chooseOnCredit l

/-- CREDIT_PULSE (R163, R172, R162). -/
def execCreditPulse (l : LaneId) (s : State) : Host.Outcome State Fault Refusal := .next (s.creditPulse l)

/-! ## The end of a packet -/

/-- The unit at the head of the list has been sent whole: flags, list, unit in progress, counter (R166). -/
def State.unitSent (s : State) (l : LaneId) (st : Stream) (source : Nat) : State :=
  let s1 := s.editEntry st source fun e => e.markSent l
  s1.setLane l { s1.lane l with
    items := (s1.lane l).items.tail
    inProgress := none
    counters := { (s1.lane l).counters with units := bump (s1.lane l).counters.units } }

/-- What the end of a segment does before the transmitter's next choice (R166): the last segment of the unit in
progress ends its send, and every segment is followed by an ordinary release. A unit dropped during its send is
in progress no more (R170). -/
def State.segmentSent (s : State) (l : LaneId) (g : Segment) : State :=
  let s1 := if g.last && (s.lane l).begun g.stream g.source then s.unitSent l g.stream g.source else s
  s1.ordinaryRelease g.stream

/-- A marker that has been sent leaves the list (R166). -/
def LaneSender.markerSent (x : LaneSender) : LaneSender :=
  { x with items := x.items.tail, counters := { x.counters with markers := bump x.counters.markers } }

/-- The end of a packet, up to the transmitter's next choice (R166, R167). -/
def State.packetEnded (s : State) (l : LaneId) : Packet → State
  | .segment g => s.segmentSent l g
  | .marker _ => s.setLane l (s.lane l).markerSent
  | .report _ => s

/-- The packet being sent on a lane goes out whole, and the transmitter is FREE (R162, R166, R174). -/
def State.finishPacket (s : State) (l : LaneId) : State :=
  match (s.lane l).tx with
  | none => s
  | some k =>
    let s1 := s.packetEnded l k
    s1.setLane l { s1.lane l with tx := none }

/-- The transmitter of a lane finishes its packet and chooses the next (R162, R166). -/
def State.packetSent (s : State) (l : LaneId) : State :=
  match (s.lane l).tx with
  | none => s
  | some _ => (s.finishPacket l).choose l

/-- A lane sender at the RESET directive: the packet being sent is completed, and then the sender takes the state of
R173 (R174). -/
def State.resetLane (s : State) (l : LaneId) : State := (s.finishPacket l).setLane l {}

/-- LANE_PACKET_SENT (R162, R166, R109). -/
def execLanePacketSent (l : LaneId) (s : State) : Host.Outcome State Fault Refusal := .next (s.packetSent l)

end Sys2Proof.Machine
end

