-- ==== Sys2Proof/Machine/Wire.lean ====
section
/-! DEFINITION. The bytes of what the lanes carry: notices, reply data, markers, reports, segments and the lane
packet around them (chapter 11). -/

namespace Sys2Proof.Machine

/-! ## Items of known width (R197) -/

/-- A source number in 6 bytes. -/
def sourceBytes (n : Nat) : List Byte := be 6 n

/-- A source number that may be absent: 0xFFFFFFFFFFFF (R197). -/
def optSourceBytes : Option Nat → List Byte
  | some n => sourceBytes n
  | none => sourceBytes 0xFFFFFFFFFFFF

/-- An E: S - 1 with S = 0 is sent as 0xFFFFFFFFFFFF (R197). -/
def endBytes (e : Int) : List Byte := if e < 0 then sourceBytes 0xFFFFFFFFFFFF else sourceBytes e.toNat

/-- A two-way item: bit 0 set for the first case named (R197). -/
def twoWay (first : Bool) : List Byte := be 1 (bit first)

/-- A fault record (Table 11-12). -/
def FaultRecord.bytes (k : FaultRecord) : List Byte :=
  be 1 k.kind.byte ++ be 1 (laneByte k.requester) ++ be 1 k.stream.byte ++ be 1 0 ++ sourceBytes k.source ++
    be 2 k.page ++ be 2 k.offset ++ be 2 k.segment

/-! ## Notices (Tables 10-3 and 11-11, R197) -/

/-- The kind byte of a notice: its place in Table 10-3, from 1. -/
def Notice.kind : Notice → Nat
  | .overrun .. => 1 | .pictureDropped .. => 2 | .geometry .. => 3 | .proxySkip .. => 4 | .ceiling .. => 5
  | .spill .. => 6 | .fault .. => 7 | .refLost .. => 8 | .refRestored .. => 9 | .laneStall .. => 10
  | .laneResumed .. => 11 | .directiveLost .. => 12

def CapacityReason.byte : CapacityReason → Nat
  | .tableFull => 1
  | .fifoFull => 2

def SpillReason.byte : SpillReason → Nat
  | .space => 1
  | .directory => 2

/-- The contents of a notice, in the order of Table 10-3. -/
def Notice.contents : Notice → List Byte
  | .overrun source => sourceBytes source
  | .pictureDropped source reason => sourceBytes source ++ be 1 reason.byte
  | .geometry source w h => sourceBytes source ++ be 2 w ++ be 2 h
  | .proxySkip source row begun => sourceBytes source ++ be 2 row ++ twoWay begun
  | .ceiling st source firstFlat flats coded c =>
    be 1 st.byte ++ sourceBytes source ++ be 2 firstFlat ++ be 4 flats ++ be 4 coded ++ be 4 c
  | .spill st source reason shortfall tail =>
    be 1 st.byte ++ sourceBytes source ++ be 1 (reason.byte + 128 * bit tail.isNone) ++ be 4 shortfall ++
      sourceBytes (tail.getD 0)
  | .fault k => k.bytes
  | .refLost source label => optSourceBytes source ++ labelBytes label
  | .refRestored label opens => labelBytes label ++ be 2 opens
  | .laneStall l st source segment count =>
    be 1 (laneByte l) ++ be 1 st.byte ++ sourceBytes source ++ be 2 segment ++ be 2 count
  | .laneResumed l count => be 1 (laneByte l) ++ be 2 count
  | .directiveLost code tag cls => [code, tag] ++ be 1 cls.byte

/-! ## Take markers and take records (Table 11-10) -/

/-- A mark entry (Table 11-10, R197). -/
def Mark.bytes (m : Mark) : List Byte :=
  labelBytes m.label ++ sourceBytes (m.source.getD 0) ++ be 1 m.code ++
    be 1 (bit (m.cls == .accessory) + 2 * bit m.source.isNone)

/-- The 64 bytes and marks of the TAKE CLOSE layout, with the bytes at offsets 0, 56 and 63 given. -/
def TakeRec.layout (t : TakeRec) (first reason last : Nat) : List Byte :=
  be 1 first ++ be 1 t.mode.byte ++ be 2 t.number ++ sourceBytes t.s0 ++ sourceBytes t.s ++ be 2 t.pActual ++
    endBytes (t.e.getD 0) ++ optLabelBytes t.startStamp ++ optLabelBytes t.endStamp ++
    sourceBytes (t.proxyFirst.getD 0) ++ sourceBytes (t.proxyLast.getD 0) ++
    be 4 t.full ++ be 4 t.proxy ++ be 4 t.gaps ++ be 1 reason ++ be 1 (takeFlags t) ++ be 1 t.marks.length ++
    be 4 t.refused ++ be 1 last ++ t.marks.flatMap Mark.bytes

/-- The payload of a MARKER (Table 11-10). -/
def Marker.payload : Marker → List Byte
  | .takeOpen number s0 s pActual mode =>
    be 1 1 ++ be 1 mode.byte ++ be 2 number ++ sourceBytes s0 ++ sourceBytes s ++ be 2 pActual
  | .takeClose t => t.layout 2 ((t.reason.map EndReason.byte).getD 0) 0

/-- The end reason byte of a take record: the pending stop's reason while a stop is pending, 0 while it is absent
(R197). -/
def TakeRec.reasonByte (t : TakeRec) : Nat :=
  match t.stopPending, t.reason with
  | some r, _ => r.byte
  | none, some r => r.byte
  | none, none => 0

/-- A take record as READ TAKE sends it (R197). -/
def TakeRec.recordBytes (t : TakeRec) : List Byte := t.layout t.state.byte t.reasonByte (takeStatus t)

/-! ## Replies (R182, Table 11-11) -/

/-- The data of a reply in the order of R182, with the widths of R197. -/
def ReplyData.bytes : ReplyData → List Byte
  | .none => []
  | .loaded st effective => be 1 st.byte ++ sourceBytes effective
  | .jammed label pending => labelBytes label ++ twoWay pending
  | .armed pmax => be 2 pmax
  | .started number s0 s pActual => be 2 number ++ sourceBytes s0 ++ sourceBytes s ++ be 2 pActual
  | .stopped number e closing => be 2 number ++ endBytes e ++ twoWay closing
  | .marked number position => be 2 number ++ be 2 position
  | .snapshot group bytes => be 1 group ++ bytes
  | .take t => t.recordBytes
  | .cleared count => be 1 count
  | .restarted st cancelled => be 1 st.byte ++ twoWay cancelled.isSome ++ optSourceBytes cancelled

/-- The payload of a REPORT (Table 11-11). -/
def QueuedReport.payload (r : QueuedReport) : List Byte :=
  match r.report with
  | .reply cls code tag rc data =>
    be 1 1 ++ be 1 cls.byte ++ be 2 r.lost ++ [code, tag] ++ be 1 rc.byte ++ be 1 0 ++
      be 2 data.bytes.length ++ data.bytes
  | .notice n =>
    be 1 2 ++ be 1 n.kind ++ be 2 r.lost ++ be 4 0 ++ be 2 n.contents.length ++ n.contents

/-! ## Lane packets (Tables 11-5 and 11-6, R195) -/

/-- The payload of a SEGMENT (Table 11-6). -/
def Segment.payload (g : Segment) : List Byte :=
  be 1 g.stream.byte ++ be 1 (segmentFlags g) ++ sourceBytes g.source ++ be 2 g.index ++ be 2 g.dropCount ++ g.data

def Packet.kind : Packet → Nat
  | .segment _ => 1
  | .marker _ => 2
  | .report _ => 3

def Packet.payload : Packet → List Byte
  | .segment g => g.payload
  | .marker m => m.payload
  | .report r => r.payload

/-- The sync word of every packet (chapter 11). -/
def syncWord : List Byte := [0x5A#8, 0x3C#8, 0x96#8, 0xF0#8]

/-- A lane packet as it goes out (R195): sync word, header with its check, payload, CRC-32. -/
def lanePacket (l : LaneId) (k : Packet) : List Byte :=
  let h := be 1 k.kind ++ be 1 (laneByte l) ++ be 2 k.payload.length ++ be 2 0
  syncWord ++ h ++ be 2 (crc16 h).toNat ++ k.payload ++ be 4 (crc32 k.payload).toNat

/-- The bytes a lane's transmitter is sending, none while it is FREE (R162, R195). -/
def State.laneOutput (s : State) (l : LaneId) : List Byte :=
  match (s.lane l).tx with
  | some k => lanePacket l k
  | none => []

end Sys2Proof.Machine
end

