-- ==== Sys2Proof/Machine/Link.lean ====
section
/-! DEFINITION. The framing of the Tile Link: from a byte stream to the commands it gives (R19 to R22, R192, R193).
The commands stand for packets already framed; this file says which packets those are (log 10). -/

namespace Sys2Proof.Machine

/-- The fields the TI reads of a good header (Table 11-1). -/
structure LinkHeader where
  kind : Nat
  length : Nat
  linkSeq : BitVec 16
  cls : Byte
  deriving DecidableEq, Repr

/-- The header that stands behind a sync word at the front of the bytes, if it is good: sync word, header check,
payload length at most 1,536 (2.1, R192). -/
def goodHeaderAt (bytes : List Byte) : Option LinkHeader :=
  let h := (bytes.drop 4).take 12
  if bytes.take 4 = syncWord ∧ fieldAt h 10 2 = (crc16 (h.take 10)).toNat ∧ fieldAt h 2 2 ≤ 1536 ∧ h.length = 12 then
    some ⟨fieldAt h 0 1, fieldAt h 2 2, BitVec.ofNat 16 (fieldAt h 4 2), h.getD 6 0⟩
  else none

/-- The command of a packet whose CRC-32 passes, by kind and length (R21, R22, R193). -/
def packetCommand (h : LinkHeader) (payload : List Byte) : Instr :=
  match h.kind with
  | 1 =>
    if payload.length = 6 ∧ BitVec.ofNat 16 (fieldAt payload 4 2) = h.linkSeq then
      .openPacket h.linkSeq (BitVec.ofNat 16 (fieldAt payload 4 2)) (BitVec.ofNat 16 (fieldAt payload 0 2))
        (BitVec.ofNat 16 (fieldAt payload 2 2))
    else .badPacket .format
  | 2 =>
    if payload.length = 1282 then .tilePacket h.linkSeq (BitVec.ofNat 16 (fieldAt payload 0 2)) (payload.drop 2)
    else .badPacket .format
  | 3 =>
    if payload.length = 2 then .closePacket h.linkSeq (BitVec.ofNat 16 (fieldAt payload 0 2)) else .badPacket .format
  | 4 =>
    (match payload, classOf h.cls.toNat with
      | code :: tag :: args, some _ => .directivePacket h.cls code tag args
      | _ :: _ :: _, none | [_], _ | [], _ => .badPacket .format)
  | 5 => .fillPacket
  | _ => .badPacket .format

/-- The command of a packet with a good header, its payload and its four CRC bytes (R21, R192). -/
def framedCommand (h : LinkHeader) (payload crc : List Byte) : Instr :=
  if beValue crc = (crc32 payload).toNat then packetCommand h payload else .badPacket .crc

/-- The bytes of a Tile Link packet with these header fields and payload (Tables 11-1 and 11-2, R192). -/
def linkPacket (kind flags : Byte) (linkSeq : BitVec 16) (cls : Byte) (spare : BitVec 24) (payload : List Byte) :
    List Byte :=
  let h := [kind, flags] ++ be 2 payload.length ++ be 2 linkSeq.toNat ++ [cls] ++ be 3 spare.toNat
  syncWord ++ h ++ be 2 (crc16 h).toNat ++ payload ++ be 4 (crc32 payload).toNat

/-- The packet that gives a command, with the bytes the TI does not read as they may be: flags, spare, the source
class of a packet that is no DIRECTIVE, the link sequence of one that is no picture packet, a FILL's payload. `none`
for a command that no packet gives. -/
def commandPacket (c : Instr) (flags : Byte) (spare : BitVec 24) (cls : Byte) (seq : BitVec 16) (filler : List Byte) :
    Option (List Byte) :=
  match c with
  | .openPacket linkSeq seqCopy w h =>
    some (linkPacket 1 flags linkSeq cls spare (be 2 w.toNat ++ be 2 h.toNat ++ be 2 seqCopy.toNat))
  | .tilePacket linkSeq position bytes => some (linkPacket 2 flags linkSeq cls spare (be 2 position.toNat ++ bytes))
  | .closePacket linkSeq count => some (linkPacket 3 flags linkSeq cls spare (be 2 count.toNat))
  | .directivePacket classByte code tag args => some (linkPacket 4 flags seq classByte spare (code :: tag :: args))
  | .fillPacket => some (linkPacket 5 flags seq cls spare filler)
  | .resetLine _ | .headerFailure | .badPacket _ | .refPulse | .refLost | .trigEdge _ | .creditPulse _ | .laneStall _
  | .lanePacketSent _ | .arbiterChoice | .handOver | .codeTile | .passByEntry | .passByRow
  | .loadProfile | .loadLadder | .setRing | .setLanes | .setLaneBFeed | .setTrigger | .setTimecode
  | .jam | .arm | .disarm | .start | .stop | .mark | .query | .readTake | .clearTakes | .restart
  | .reset | .unknownDirective => none

/-- What the TI is about on the link: hunting; LOCKED and expecting a header here; or LOCKED and searching forward
after a header failure (R19, R20). -/
inductive LinkMode where
  | hunt
  | expect
  | search
  deriving DecidableEq, Repr

/-- The TI after a header failure (R20): the third in a row loses the lock. -/
def LinkMode.failed (fails : Nat) : LinkMode × Nat := if fails + 1 < 3 then (.search, fails + 1) else (.hunt, 0)

/-- The commands a byte stream gives, from a mode and a consecutive failure count, as far as the bytes reach; the
first argument bounds the work, and the length of the stream is enough of it. -/
def Link.scan : Nat → LinkMode → Nat → List Byte → List Instr
  | 0, _, _, _ => []
  | k + 1, mode, fails, bytes =>
    if bytes.length < 16 then []
    else
      match goodHeaderAt bytes with
      | some h =>
        if bytes.length < 20 + h.length then []
        else
          framedCommand h ((bytes.drop 16).take h.length) ((bytes.drop (16 + h.length)).take 4) ::
            Link.scan k .expect 0 (bytes.drop (20 + h.length))
      | none =>
        if mode = .expect ∨ (mode = .search ∧ bytes.take 4 = syncWord) then
          .headerFailure :: Link.scan k (LinkMode.failed fails).1 (LinkMode.failed fails).2 bytes.tail
        else Link.scan k mode fails bytes.tail

/-- What the TI is about in its present state (R19, R20): LOCKED with failures counted, it is searching forward. -/
def Ti.linkMode (t : Ti) : LinkMode :=
  match t.link with
  | .hunt => .hunt
  | .locked => if t.fails = 0 then .expect else .search

/-- The commands a byte stream gives the part in its present link state (R19 to R22). -/
def State.linkCommands (s : State) (bytes : List Byte) : List Instr :=
  Link.scan bytes.length s.ti.linkMode s.ti.fails bytes

end Sys2Proof.Machine
end

