-- ==== Sys2Proof/Machine/Execute.lean ====
section
/-! DEFINITION. The Directive Unit (chapter 10): the Directive FIFO, the execution of the head directive as one
shared operation, UNKNOWN_DIRECTIVE, and the DIRECTIVE packet. -/

namespace Sys2Proof.Machine

/-- What an owner answers when it takes a directive: the state after, the reply code and the reply data. -/
structure Taken where
  state : State
  code : ReplyCode
  data : ReplyData

/-- A directive refused by its owner: nothing changes (R181). -/
def refuse (s : State) (c : ReplyCode) : Taken := ⟨s, c, .none⟩

/-- The head directive leaves the FIFO at the end of its execution (R176). -/
def State.popDirective (s : State) : State := { s with du := { s.du with fifo := s.du.fifo.tail } }

/-- One more directive of a kind taken, counted at the hand-off to the owner (Table 10-6). -/
def State.countTaken (s : State) (k : DirKind) : State :=
  { s with du := { s.du with counters :=
      { s.du.counters with taken := s.du.counters.taken.modify k.index bump } } }

/-- The counter that a refusal code advances (Table 10-6). -/
def DuCounters.countRefusal (c : DuCounters) : ReplyCode → DuCounters
  | .done | .doneClamped | .doneConflict => c
  | .refusedClass => { c with classRefusals := bump c.classRefusals }
  | .refusedBusy => { c with busy := bump c.busy }
  | .refusedState => { c with state := bump c.state }
  | .refusedRange => { c with range := bump c.range }
  | .refusedFull => { c with full := bump c.full }
  | .refusedUnknown => { c with unknown := bump c.unknown }
  | .refusedFormat => { c with formatRefusals := bump c.formatRefusals }

def State.countRefusal (s : State) (c : ReplyCode) : State :=
  { s with du := { s.du with counters := s.du.counters.countRefusal c } }

/-- The DU's own checks of a directive whose code is known: class, then argument length (R178, R179, R194). -/
def DirKind.check (k : DirKind) (d : Directive) : Option ReplyCode :=
  if k.privileged && d.cls == .accessory then some .refusedClass
  else if d.args.length ≠ k.argLength d.args then some .refusedFormat
  else none

/-- End an execution with a reply: the code's counter, the reply on the class's lane, and the FIFO (R178, R180). -/
def State.answer (s : State) (d : Directive) (rc : ReplyCode) (data : ReplyData) : State :=
  ((s.countRefusal rc).reply d.cls d.code d.tag rc data).popDirective

/-- Execute the head directive if it is one of kind `k` (R178): the DU's checks, the hand-off to the owner, the
reply. With another head, or none, the DU takes no such step and nothing changes (log 1). -/
def State.execute (s : State) (k : DirKind) (owner : Directive → State → Taken) : State :=
  match s.du.fifo with
  | [] => s
  | d :: _ =>
    if d.code ≠ k.code then s
    else
      match k.check d with
      | some rc => s.answer d rc .none
      | none =>
        let t := owner d (s.countTaken k)
        t.state.answer d t.code t.data

/-- UNKNOWN_DIRECTIVE: the head directive's code names no directive (R178, check 1). -/
def execUnknownDirective (s : State) : Host.Outcome State Fault Refusal :=
  match s.du.fifo with
  | [] => .next s
  | d :: _ => if (DirKind.ofCode d.code).isSome then .next s else .next (s.answer d .refusedUnknown .none)

/-- A directive handed over by the TI: appended while the FIFO holds fewer than 8, lost otherwise with a
DIRECTIVE LOST notice (R176, R177). -/
def State.receiveDirective (s : State) (d : Directive) : State :=
  if s.du.fifo.length < 8 then { s with du := { s.du with fifo := s.du.fifo ++ [d] } }
  else
    ({ s with du := { s.du with counters := { s.du.counters with lost := bump s.du.counters.lost } } } : State).notify
      (.directiveLost d.code d.tag d.cls)

end Sys2Proof.Machine
end

