-- ==== Sys2Proof/Machine/Query.lean ====
section
/-! DEFINITION. QUERY: the snapshot of each group of Table 10-4 as its bytes, the clear option, and the meaning of
QUERY (R38, R56, R77, R94, R115, R134, R159, R175, R188 to R190, R197). What R197 leaves open is log 21. -/

namespace Sys2Proof.Machine

/-- Counters, 4 bytes each (R197). -/
def counterBytes (c : List Nat) : List Byte := c.flatMap (be 4)

/-! ## INTAKE (R38) -/

def LinkState.byte : LinkState → Nat
  | .hunt => 0
  | .locked => 1

def PicStatus.byte : PicStatus → Nat
  | .idle => 0
  | .opened => 1
  | .ended => 2
  | .dropping => 3

/-- The counters of Table 2-8 in its order. -/
def TiCounters.list (c : TiCounters) : List Nat :=
  [c.headerFailures, c.lockLosses, c.crcFailures, c.formatErrors, c.stale, c.duplicateOpens, c.impliedOpens,
   c.dropNoProfile, c.dropGeometry, c.dropTableFull, c.dropFifoFull, c.duplicateTiles, c.droppedTiles, c.overrun,
   c.concealedPositions, c.truncations, c.closeMismatches, c.unmatchedCloses]

def Ti.snapshot (t : Ti) : List Byte :=
  be 1 t.link.byte ++ be 1 t.fails ++ be 1 t.status.byte ++
    optSourceBytes (if t.status = .idle then none else some t.source) ++ be 2 t.expected ++
    sourceBytes t.nextSource ++ be 2 t.fifo.length ++ be 1 t.table.length ++ counterBytes t.counters.list

/-! ## PROFILES (Table 10-4) -/

/-- The argument bytes of a profile from argument offset 1 (Table 11-4, R197). -/
def ProfileRec.arguments (p : ProfileRec) (st : Stream) : List Byte :=
  be 1 p.rateCode ++
    (match st with
      | .f => be 2 p.width ++ be 2 p.height
      | .p => be 1 p.scale ++ be 1 p.decimation ++ be 1 p.share ++ be 1 0) ++
    be 4 p.rate ++ be 4 p.ceiling ++ be 1 p.qlo ++ be 1 p.qstart ++ be 1 p.qhi ++ be 1 p.stride

/-- An active profile: validity byte and arguments (R197); zeros when none was ever loaded. -/
def activeProfileBytes (st : Stream) : Option ProfileRec → List Byte
  | some p => be 1 (bit p.valid) ++ p.arguments st
  | none => be 18 0

/-- A pending profile with its effective source number; 0xFF for an empty slot. -/
def pendingProfileBytes (st : Stream) : Option PendingProfile → List Byte
  | some p => be 1 (bit p.record.valid) ++ p.record.arguments st ++ sourceBytes p.effective
  | none => be 1 0xFF ++ be 17 0 ++ optSourceBytes none

/-- The argument bytes of a ladder from argument offset 1. -/
def ladderArguments (steps : List Nat) : List Byte := be 1 steps.length ++ steps.flatMap (be 2)

def activeLadderBytes : Option (List Nat) → List Byte
  | some l => be 1 1 ++ ladderArguments l
  | none => be 2 0

def pendingLadderBytes : Option PendingLadder → List Byte
  | some l => be 1 1 ++ ladderArguments l.steps ++ sourceBytes l.effective
  | none => be 1 0xFF ++ be 1 0 ++ optSourceBytes none

/-- Wp and Hp, which R5 derives for stream P alone. -/
def proxySizeBytes (st : Stream) (width height : Nat) : List Byte :=
  match st with
  | .f => []
  | .p => be 2 width ++ be 2 height

/-- The derived quantities of a record in the order of R5 to R7, with a pad-line count of 0 for stream F; those of no
record are zeros with no E (log 21). -/
def derivedBytes (st : Stream) : Option ProfileRec → List Byte
  | some p =>
    proxySizeBytes st p.width p.height ++ be 1 p.tilesAcross ++ be 2 p.rows ++ be 2 p.tiles ++ be 1 p.padLines ++
      be 4 p.target ++ be 4 p.rowTarget ++ (List.range p.rows).flatMap (fun r => be 4 (p.expected r)) ++
      be 4 p.reservation
  | none => proxySizeBytes st 0 0 ++ be 18 0

def StreamTables.snapshot (t : StreamTables) (st : Stream) : List Byte :=
  activeProfileBytes st t.profile ++ pendingProfileBytes st t.pendingProfile ++ activeLadderBytes t.ladder ++
    pendingLadderBytes t.pendingLadder ++ derivedBytes st t.profile ++
    derivedBytes st (t.pendingProfile.map PendingProfile.record)

/-- A ring; one that is not set is sent as base 0, count 0. -/
def ringBytes : Option Ring → List Byte
  | some r => be 2 r.base ++ be 4 r.pages
  | none => be 6 0

def LaneMap.bytes (m : LaneMap) : List Byte :=
  be 1 (bit m.aF) ++ be 1 (bit m.aP) ++ be 1 m.feed.byte ++ be 1 m.bStream.byte ++ be 1 m.bmax

def Prs.snapshot (p : Prs) : List Byte :=
  p.f.snapshot .f ++ p.p.snapshot .p ++ ringBytes p.f.ring ++ ringBytes p.p.ring ++ p.lanes.bytes ++
    be 1 p.trigger.byte

/-! ## SCALER (R56) -/

def ScalerState.byte : ScalerState → Nat
  | .idle => 0
  | .scaling => 1
  | .ignoring => 2

/-- A slot: the source number and row index it holds; an empty one has no source number and row index 0 (log 21). -/
def slotBytes : Option ProxyRow → List Byte
  | some r => sourceBytes r.source ++ be 2 r.row
  | none => optSourceBytes none ++ be 2 0

def PsCounters.list (c : PsCounters) : List Nat := [c.selected, c.selectedDrops, c.rowsPlaced, c.abandons]

/-- The PS snapshot; a d of 0 stands for no adopted record. -/
def Ps.snapshot (p : Ps) : List Byte :=
  be 1 p.phase ++ be 1 ((p.adopted.map ProfileRec.decimation).getD 0) ++ be 1 p.mode.byte ++
    optSourceBytes (p.scaled.map Scaled.source) ++ be 2 p.row ++ slotBytes p.slot1 ++ slotBytes p.slot2 ++
    counterBytes p.counters.list

/-! ## CODER (R77, R94) -/

def CtxState.byte : CtxState → Nat
  | .inactive => 0
  | .ready => 1
  | .coding => 2
  | .discarding => 3

/-- The loaded-context indicator: none, SC-F, SC-P. -/
def loadedByte : Option Stream → Nat
  | none => 0
  | some .f => 1
  | some .p => 2

/-- A signed number in 4 bytes, two's complement (log 21). -/
def signedBytes (x : Int) : List Byte := be 4 (x % 4294967296).toNat

/-- What R94 reports of the active record: T, t, C, window and M, behind the context's R77 items; zeros with no record
(log 21). -/
def rateBytes : Option ProfileRec → List Byte
  | some p => be 4 p.target ++ be 4 p.rowTarget ++ be 4 p.ceiling ++ be 1 p.qlo ++ be 1 p.qstart ++ be 1 p.qhi ++
      be 1 p.stride
  | none => be 16 0

/-- The state of a context (R77, R94). -/
def State.contextBytes (s : State) (st : Stream) : List Byte :=
  let w := s.ws st
  let c := s.ctx st
  be 1 w.state.byte ++ optSourceBytes w.picture ++ be 2 w.row ++ be 1 w.q ++ signedBytes w.debt ++ be 4 w.coded ++
    twoWay w.flatLatch ++ be 4 w.flats ++ be 2 w.raws ++ be 2 w.conceals ++ be 2 w.saturations ++
    twoWay c.restart ++ twoWay c.abandon.isSome ++ optSourceBytes c.abandon ++ twoWay c.activate ++
    (match st with
      | .f => []
      | .p => be 2 c.gap) ++
    rateBytes (s.tables st).profile

/-- A context's counters in the order of R77 and R94; stale ABANDON requests are SC-P's alone. -/
def CtxCounters.list (c : CtxCounters) (st : Stream) : List Nat :=
  [c.restarts] ++
    (match st with
      | .f => []
      | .p => [c.staleAbandons]) ++
    [c.discarded, c.passed, c.flats, c.raws, c.conceals, c.saturations, c.debtClamps, c.flatPictures]

def State.coderSnapshot (s : State) : List Byte :=
  be 1 (loadedByte s.tc.loaded) ++ be 1 s.tc.share ++ twoWay s.tc.turn.isSome ++
    s.contextBytes .f ++ s.contextBytes .p ++
    counterBytes ([s.tc.counters.handOvers, s.tc.counters.fTurns, s.tc.counters.pTurns] ++
      s.scF.counters.list .f ++ s.scP.counters.list .p)

/-! ## STORE (R115) -/

/-- A reservation's start and size; zeros when none. -/
def reservationWords : Option Reservation → List Byte
  | some r => be 4 r.start ++ be 4 r.size
  | none => be 8 0

def RingState.snapshot (r : RingState) (ring : Option Ring) : List Byte :=
  ringBytes ring ++ be 4 r.head ++ be 4 r.tail ++ be 4 r.allocated ++ reservationWords r.reservation ++
    be 2 r.dir.length ++ optSourceBytes (r.dir.head?.map DirEntry.source) ++
    optSourceBytes (r.dir.getLast?.map DirEntry.source) ++
    be 2 (r.dir.filter DirEntry.needA).length ++ be 2 (r.dir.filter DirEntry.needB).length ++ twoWay r.spillLatch

def RingCounters.list (c : RingCounters) : List Nat :=
  [c.reservations, c.spillsSpace, c.spillsDirectory, c.discardedUnits, c.completed, c.ordinaryReleases,
   c.spaceReleases, c.laneBDrops]

def State.storeSnapshot (s : State) : List Byte :=
  s.fsc.f.snapshot s.prs.f.ring ++ s.fsc.p.snapshot s.prs.p.ring ++ optSourceBytes s.fsc.newest ++
    (match s.fsc.lastFault with
      | some k => k.bytes
      | none => be 16 0) ++
    counterBytes (s.fsc.f.counters.list ++ s.fsc.p.counters.list ++ [s.fsc.corrected, s.fsc.uncorrectable])

/-! ## TIMECODE (R134) -/

def TcuCounters.list (c : TcuCounters) : List Nat :=
  [c.refPulses, c.skippedLabels, c.refLosses, c.stampRepeats, c.jamsLoaded, c.risingEdges, c.fallingEdges]

/-- The TCU snapshot; with no jam pending the align item is 0 behind the absent label (log 21). -/
def Tcu.snapshot (t : Tcu) : List Byte :=
  be 1 t.base ++ twoWay t.drop ++ be 1 t.mode.byte ++ labelBytes t.freeRun ++ labelBytes t.recordRun ++
    be 1 (bit (!t.refPresent)) ++ be 2 t.opensSincePulse ++ be 2 t.opensSinceLoss ++
    optLabelBytes (t.jam.map Jam.label) ++ twoWay ((t.jam.map Jam.align).getD false) ++ twoWay t.alignAwaiting ++
    optSourceBytes (t.lastOpen.map LastOpen.source) ++ optLabelBytes (t.lastOpen.map LastOpen.label) ++
    be 1 (bit t.trigHigh) ++ optSourceBytes (t.capture.bind Capture.source) ++
    optLabelBytes (t.capture.map Capture.label) ++ counterBytes t.counters.list

/-! ## TAKES (R159) -/

def CtlState.byte : CtlState → Nat
  | .idle => 0
  | .caching => 1
  | .recording => 2

def TkcCounters.list (c : TkcCounters) : List Nat :=
  [c.started, c.closedStop, c.closedTrigger, c.closedSpill, c.closedRestart, c.closedEmpty, c.clamped, c.overflow,
   c.ignoredTriggers, c.marksRefused, c.cutPictures]

/-- The number of the take in a state, 0 when there is none. -/
def Tkc.numberIn (k : Tkc) (x : TakeState) : Nat :=
  match k.takes.find? fun t => t.state == x with
  | some t => t.number
  | none => 0

def Tkc.snapshot (k : Tkc) : List Byte :=
  be 1 k.ctl.byte ++ twoWay k.armed ++ be 2 k.pmax ++ optSourceBytes k.lastOpen ++
    endBytes (k.lastEnd.getD (-1)) ++ optSourceBytes k.fCut ++ be 2 k.nextTake ++ be 1 k.takes.length ++
    be 2 (k.numberIn .opened) ++ be 2 (k.numberIn .closing) ++ be 2 k.holdA.length ++ be 2 k.holdB.length ++
    be 2 k.waiting.length ++ counterBytes k.counters.list

/-! ## LANES (R175, Table 10-4) -/

/-- The counters of Table 9-3; the last three are Lane B's alone. -/
def LaneCounters.list (c : LaneCounters) (l : LaneId) : List Nat :=
  [c.segments, c.damaged, c.units, c.markers, c.reports, c.pulses, c.excess, c.stalls, c.markerRefusals,
   c.refusedReports] ++
    (match l with
      | .a => []
      | .b => [c.backlogDrops, c.ringDrops, c.cutShort])

/-- The unit in progress with its next segment index; none has no source number, a stream byte of 0 and a next index
of 0 (log 21). -/
def inProgressBytes : Option InProgress → List Byte
  | some u => be 1 u.stream.byte ++ sourceBytes u.source ++ be 2 u.next
  | none => be 1 0 ++ optSourceBytes none ++ be 2 0

def LaneSender.snapshot (x : LaneSender) (l : LaneId) : List Byte :=
  be 2 (x.items.length - markerCount x.items) ++ be 1 (markerCount x.items) ++
    (match l with
      | .a => []
      | .b => be 1 x.backlog) ++
    inProgressBytes x.inProgress ++ be 2 (x.unannounced.getD 0) ++ be 2 x.credit ++ twoWay x.waiting ++
    be 2 x.stall ++ twoWay x.stallLatch ++ be 1 x.queue.length ++
    (match l with
      | .a => []
      | .b => be 2 x.dropPending) ++
    be 2 x.lost

def State.lanesSnapshot (s : State) : List Byte :=
  s.lsA.snapshot .a ++ s.lsB.snapshot .b ++ counterBytes (s.lsA.counters.list .a ++ s.lsB.counters.list .b)

/-! ## DIRECTIVES (R190) -/

def DuCounters.list (c : DuCounters) : List Nat :=
  c.taken ++ [c.unknown, c.classRefusals, c.formatRefusals, c.busy, c.state, c.range, c.full, c.lost,
    c.waitOverflows]

/-- The code and tag of the directive in execution, which is the head of the FIFO; a QUERY always finds itself there. -/
def executionBytes : List Directive → List Byte
  | d :: _ => [d.code, d.tag]
  | [] => be 2 0

def Du.snapshot (d : Du) : List Byte :=
  be 1 d.fifo.length ++ executionBytes d.fifo ++ be 1 d.waitF.length ++ be 1 d.waitP.length ++
    counterBytes d.counters.list

/-! ## Groups, clearing, QUERY -/

/-- The groups of Table 10-4, in its order. -/
inductive Group where
  | intake
  | profiles
  | scaler
  | coder
  | store
  | timecode
  | takes
  | lanes
  | directives
  deriving DecidableEq, Repr

/-- Group codes 0x01 to 0x09 (11.2). -/
def groupOf : Nat → Option Group
  | 1 => some .intake
  | 2 => some .profiles
  | 3 => some .scaler
  | 4 => some .coder
  | 5 => some .store
  | 6 => some .timecode
  | 7 => some .takes
  | 8 => some .lanes
  | 9 => some .directives
  | _ => none

/-- The snapshot of a group (R188). -/
def State.snapshot (s : State) : Group → List Byte
  | .intake => s.ti.snapshot
  | .profiles => s.prs.snapshot
  | .scaler => s.ps.snapshot
  | .coder => s.coderSnapshot
  | .store => s.storeSnapshot
  | .timecode => s.tcu.snapshot
  | .takes => s.tkc.snapshot
  | .lanes => s.lanesSnapshot
  | .directives => s.du.snapshot

/-- The counters of a group set to 0, and nothing else (R189). -/
def State.clearGroup (s : State) : Group → State
  | .intake => { s with ti := { s.ti with counters := {} } }
  | .profiles => s
  | .scaler => { s with ps := { s.ps with counters := {} } }
  | .coder => { s with
      tc := { s.tc with counters := {} }
      scF := { s.scF with counters := {} }
      scP := { s.scP with counters := {} } }
  | .store => { s with fsc := { s.fsc with
      f := { s.fsc.f with counters := {} }
      p := { s.fsc.p with counters := {} }
      corrected := 0
      uncorrectable := 0 } }
  | .timecode => { s with tcu := { s.tcu with counters := {} } }
  | .takes => { s with tkc := { s.tkc with counters := {} } }
  | .lanes => { s with
      lsA := { s.lsA with counters := {} }
      lsB := { s.lsB with counters := {} } }
  | .directives => { s with du := { s.du with counters := {} } }

/-- QUERY (R188, R189): the snapshot carries the values before the clear. -/
def ownQuery (d : Directive) (s : State) : Taken :=
  match groupOf (fieldAt d.args 0 1) with
  | none => refuse s .refusedRange
  | some g =>
    ⟨if flagAt d.args 1 then s.clearGroup g else s, .done, .snapshot (fieldAt d.args 0 1) (s.snapshot g)⟩

def execQuery (s : State) : Host.Outcome State Fault Refusal := .next (s.execute .query ownQuery)

end Sys2Proof.Machine
end

