-- ==== Sys2Proof/Machine/Rate.lean ====
section
/-! DEFINITION. Rate control, the ceiling guard and the coded tile (chapters 4 and 5): rung selection, debt, the
kind, size and bytes of a tile. -/

namespace Sys2Proof.Machine

/-! ## Rung selection (R80 to R82) -/

/-- The deviation after row r: A + D - E_r (R80). -/
def ProfileRec.deviation (p : ProfileRec) (row coded : Nat) (debt : Int) : Int :=
  (coded : Int) + debt - (p.expected row : Int)

/-- The stride for a deviation of size `a` outside the dead band, capped to M (R81). -/
def ProfileRec.strideFor (p : ProfileRec) (a : Nat) : Nat :=
  min ((2 * a + p.rowTarget) / (2 * p.rowTarget)) p.stride

/-- A rung moved by m: coarser when `up` (R82), before the clamp. -/
def movedRung (q m : Nat) (up : Bool) : Int := if up then (q : Int) + m else (q : Int) - m

/-- A rung clamped into the window (R82, R12). -/
def ProfileRec.clampRung (p : ProfileRec) (x : Int) : Nat :=
  if x < p.qlo then p.qlo else if (p.qhi : Int) < x then p.qhi else x.toNat

/-- The clamp of R82 acts. -/
def ProfileRec.saturates (p : ProfileRec) (x : Int) : Bool := decide (x < p.qlo) || decide ((p.qhi : Int) < x)

/-- Rung selection after a coded row: the new rung, and whether the move was clamped (R80 to R82). -/
def ProfileRec.selectRung (p : ProfileRec) (row coded : Nat) (debt : Int) (q : Nat) : Nat × Bool :=
  let dev := p.deviation row coded debt
  if 2 * dev.natAbs < p.rowTarget then (q, false)
  else
    let x := movedRung q (p.strideFor dev.natAbs) (decide (0 < dev))
    (p.clampRung x, p.saturates x)

/-! ## Debt (R84, R12) -/

/-- A debt clamped into -T to +T. -/
def ProfileRec.clampDebt (p : ProfileRec) (d : Int) : Int :=
  if d < -(p.target : Int) then -(p.target : Int) else if (p.target : Int) < d then p.target else d

/-- The debt before the clamp of R84. -/
def ProfileRec.rawDebt (p : ProfileRec) (debt : Int) (coded : Nat) : Int := debt + coded - p.target

/-- The clamp of R84 acts. -/
def ProfileRec.debtClamps (p : ProfileRec) (d : Int) : Bool :=
  decide (d < -(p.target : Int)) || decide ((p.target : Int) < d)

/-! ## The coded tile (R70, R71, R87) -/

/-- The kinds of a coded tile (R70), in the order of their codes (Table 11-8). -/
inductive TileKind where
  | compressed
  | raw
  | flat
  | concealed
  deriving DecidableEq, Repr

def TileKind.byte : TileKind → Nat
  | .compressed => 1
  | .raw => 2
  | .flat => 3
  | .concealed => 4

/-- The least of a function's values at 0 to n. -/
def leastUpTo (f : Nat → Nat) : Nat → Nat
  | 0 => f 0
  | n + 1 => min (f (n + 1)) (leastUpTo f n)

/-- The compressed payload of samples at a step: a multiple of 8 from 8 up, which depends on the samples and the
step alone and never grows with the step (R70, R71); otherwise free (log 7). -/
def compressedPayload (samples : List Sample) (step : Nat) : Nat :=
  8 * (leastUpTo (Config.coderBlocks samples) step + 1)

/-- The ceiling test (R87): `left` positions not yet coded, this one included. -/
def ceilingTest (coded left ceilingC : Nat) : Bool := decide (coded + 1288 + 16 * (left - 1) ≤ ceilingC)

/-- The kind of a position (R70, R87 to R89): `none` samples stand for a concealed position. -/
def tileKind (samples : Option (List Sample)) (latch passes : Bool) (step : Nat) : TileKind :=
  match samples with
  | none => .concealed
  | some x =>
    if latch || !passes then .flat
    else if compressedPayload x step ≤ 1272 then .compressed
    else .raw

/-- Payload bytes of a coded tile (R70). -/
def tilePayload (k : TileKind) (samples : Option (List Sample)) (step : Nat) : Nat :=
  match k with
  | .concealed | .flat => 8
  | .compressed => compressedPayload (samples.getD []) step
  | .raw => 1280

/-- Total size of a coded tile, header included (R70). -/
def tileSize (k : TileKind) (samples : Option (List Sample)) (step : Nat) : Nat := 8 + tilePayload k samples step

/-- The mean of a flat tile's component: floor((S + 256) / 512) for Y, floor((S + 128) / 256) for Cb and Cr (R70). -/
def componentMean (c : Component) (samples : List Sample) : Nat :=
  let n := 8 * c.tileColumns
  (((componentSamples c samples).map BitVec.toNat).sum + n / 2) / n

/-- The payload of a flat or concealed tile: three means and 2 bytes of 0 (11.4). -/
def meansPayload (y cb cr : Nat) : List Byte := be 2 y ++ be 2 cb ++ be 2 cr ++ be 2 0

/-- The payload of a coded tile (R70); a compressed payload's content is free (log 7). -/
def tilePayloadBytes (k : TileKind) (samples : Option (List Sample)) (step tick : Nat) : List Byte :=
  let x := samples.getD []
  match k with
  | .concealed => meansPayload 512 512 512
  | .flat => meansPayload (componentMean .y x) (componentMean .cb x) (componentMean .cr x)
  | .compressed => (List.range (compressedPayload x step)).map (Config.coderByte tick x step)
  | .raw => packSamples x

/-- The step field of a tile header: 0 for flat and concealed (Table 11-8). -/
def tileStep (k : TileKind) (step : Nat) : Nat :=
  match k with
  | .compressed | .raw => step
  | .flat | .concealed => 0

/-- A coded tile: its 8-byte header and its payload (Table 11-8). -/
def tileBytes (k : TileKind) (samples : Option (List Sample)) (step position tick : Nat) : List Byte :=
  be 1 k.byte ++ be 1 0 ++ be 2 (tilePayload k samples step) ++ be 2 position ++ be 2 (tileStep k step) ++
    tilePayloadBytes k samples step tick

end Sys2Proof.Machine
end

