-- ==== Sys2Proof/Machine/Labels.lean ====
section
/-! DEFINITION. Timecode labels: validity, the advance by one label, and the record-run stamp (R118, R119, R125). -/

namespace Sys2Proof.Machine

/-- The first frame held in a second that passes labels over: 2 at base 30, 4 at base 60 (R118). -/
def dropFloor (base : Nat) : Nat := if base = 60 then 4 else 2

/-- A label that drop mode passes over: second 0 of a minute not divisible by 10, below the floor (R118). -/
def Label.skipped (l : Label) (base : Nat) (drop : Bool) : Bool :=
  drop && l.seconds == 0 && l.minutes % 10 != 0 && decide (l.frames < dropFloor base)

/-- Hours, minutes, seconds and frames in range for a base (R118, R126 check 2). -/
def Label.inRange (l : Label) (base : Nat) : Bool :=
  decide (l.hours < 24) && decide (l.minutes < 60) && decide (l.seconds < 60) && decide (l.frames < base)

/-- A valid label of a base and drop mode (R118). -/
def Label.valid (l : Label) (base : Nat) (drop : Bool) : Bool := l.inRange base && !l.skipped base drop

/-- The advance by one label, with the midnight wrap and the labels passed over (R119). -/
def Label.advance (l : Label) (base : Nat) (drop : Bool) : Label :=
  if l.frames + 1 < base then { l with frames := l.frames + 1 }
  else if l.seconds + 1 < 60 then { l with seconds := l.seconds + 1, frames := 0 }
  else
    let m := if l.minutes + 1 < 60 then l.minutes + 1 else 0
    let h := if l.minutes + 1 < 60 then l.hours else if l.hours + 1 < 24 then l.hours + 1 else 0
    ⟨h, m, 0, if drop && m % 10 != 0 then dropFloor base else 0⟩

/-- The record-run counter advanced by one label, after it has given a stamp (R125). -/
def State.advanceRecordRun (s : State) : State :=
  { s with tcu := { s.tcu with recordRun := s.tcu.recordRun.advance s.tcu.base s.tcu.drop } }

end Sys2Proof.Machine
end

