-- ==== Sys2Proof/Machine/Takes.lean ====
section
/-! DEFINITION. The Take Controller (chapter 8): handing units and markers, starting, stopping, closing and cutting
takes, the finishing of a picture, and the meanings of ARM, DISARM, START, STOP, MARK, READ_TAKE, CLEAR_TAKES. -/

namespace Sys2Proof.Machine

/-! ## Take records -/

/-- The take in a state; at most one is OPEN and at most one CLOSING (8.2). -/
def Tkc.inState (k : Tkc) (x : TakeState) : Option TakeRec := k.takes.find? fun t => t.state == x

/-- The record of a take number. -/
def Tkc.take (k : Tkc) (n : Nat) : Option TakeRec := k.takes.find? fun t => t.number == n

/-- A take that is OPEN or CLOSING, by number (R144). -/
def Tkc.live (k : Tkc) (n : Nat) : Option TakeRec := k.takes.find? fun t => t.number == n && t.state != .closed

/-- Some take is OPEN or CLOSING (R2, R14, R120, R126). -/
def Tkc.busy (k : Tkc) : Bool := k.takes.any fun t => t.state != .closed

def modifyTake (n : Nat) (f : TakeRec → TakeRec) (takes : List TakeRec) : List TakeRec :=
  takes.map fun t => if t.number == n then f t else t

/-- Write fields of the record of a take. -/
def State.editTake (s : State) (n : Nat) (f : TakeRec → TakeRec) : State :=
  { s with tkc := { s.tkc with takes := modifyTake n f s.tkc.takes } }

/-- A take's lane set has the lane (R146). -/
def TakeRec.onLane (t : TakeRec) : LaneId → Bool
  | .a => t.aF || t.aP
  | .b => t.bP

/-! ## Handing units and markers to the lanes -/

/-- The take between whose TAKE OPEN and TAKE CLOSE a lane stands: the CLOSING take, else the OPEN take, when its
lane set has the lane (R148). -/
def State.bracket (s : State) (l : LaneId) : Option Nat :=
  match s.tkc.inState .closing with
  | some c => if c.onLane l then some c.number
    else (s.tkc.inState .opened).bind fun o => if o.onLane l then some o.number else none
  | none => (s.tkc.inState .opened).bind fun o => if o.onLane l then some o.number else none

/-- Hand an item of a take, or of none, to a lane: what is not of the take the lane stands in joins the hold's
tail (R148). -/
def State.handItem (s : State) (l : LaneId) (take : Option Nat) (i : Item) : State :=
  match s.bracket l with
  | none => s.push l i
  | some b => if take = some b then s.push l i else s.setHold l (s.hold l ++ [i])

/-- The take record once a unit of it has been handed: counts, stamps and flags (R143, R144). -/
def TakeRec.countUnit (t : TakeRec) (st : Stream) (source : Nat) (e : Option DirEntry) : TakeRec :=
  let stamp := e.map DirEntry.stamp
  let t1 := { t with
    concealed := t.concealed || (e.map DirEntry.concealed).getD false
    flat := t.flat || (e.map DirEntry.flat).getD false }
  match st with
  | .f => { t1 with
      full := t.full + 1
      startStamp := t.startStamp <|> stamp
      lastFull := (stamp.map fun x => ⟨source, x⟩) <|> t.lastFull }
  | .p => { t1 with
      proxy := t.proxy + 1
      proxyFirst := t.proxyFirst <|> some source
      proxyLast := some source }

/-! ## Closing -/

/-- What keeps a CLOSING take from ending: an unfinished picture of it, or a P unit waiting for its master (R150). -/
def State.unfinished (s : State) (n : Nat) : Bool :=
  (s.ti.table.any fun r => r.take == some n && !r.finished) || s.tkc.waiting.any fun w => w.take == n

/-- The controller state on leaving RECORDING (R149). -/
def Tkc.afterTake (k : Tkc) : CtlState := if k.armed then .caching else .idle

/-- A take with a stop pending enters CLOSING with its E and reason; last end becomes E and the controller leaves
RECORDING (R149). -/
def State.enterClosing (s : State) (t : TakeRec) : State :=
  let s1 := s.editTake t.number fun x => { x with state := .closing, reason := t.stopPending, stopPending := none }
  { s1 with tkc := { s1.tkc with lastEnd := t.e, ctl := s.tkc.afterTake } }

/-- A take closed, counted by its end reason (Table 8-5). -/
def TkcCounters.countClosed (c : TkcCounters) : EndReason → TkcCounters
  | .stop => { c with closedStop := bump c.closedStop }
  | .trigger => { c with closedTrigger := bump c.closedTrigger }
  | .spill => { c with closedSpill := bump c.closedSpill }
  | .restart => { c with closedRestart := bump c.closedRestart }
  | .empty => { c with closedEmpty := bump c.closedEmpty }

/-- The end reason a take closes with: EMPTY replaces the stop's reason when it has no unit (R150, R151). -/
def TakeRec.finalReason (t : TakeRec) : EndReason :=
  if t.full = 0 ∧ t.proxy = 0 then .empty else t.reason.getD .stop

/-- The record a take closes with (R143, R150). -/
def TakeRec.closeRec (t : TakeRec) : TakeRec :=
  { t with state := .closed, endStamp := t.lastFull.map LastFull.stamp, reason := some t.finalReason }

/-- The contents of a lane's hold are handed to the lane, in the order they entered it, and the hold is empty (R148). -/
def State.releaseHold (s : State) (l : LaneId) : State := (s.setHold l []).pushAll l (s.hold l)

/-- TAKE CLOSE on a lane of the take's lane set, and the hold's contents directly behind it (R147, R148). -/
def State.closeOnLane (s : State) (t : TakeRec) (l : LaneId) : State :=
  if t.onLane l then (s.pushMarker l (.takeClose t)).releaseHold l else s

/-- A take with a stop pending, once the other take has closed, enters CLOSING (R150 step 4). -/
def State.promote (s : State) : State :=
  match s.tkc.inState .opened with
  | some t => if t.stopPending.isSome then s.enterClosing t else s
  | none => s

/-- The end of a CLOSING take that nothing keeps open (R150). -/
def State.closeTake (s : State) (t : TakeRec) : State :=
  let c := t.closeRec
  let s1 := s.editTake t.number fun _ => c
  let s2 : State := { s1 with tkc := { s1.tkc with counters := s1.tkc.counters.countClosed t.finalReason } }
  ((s2.closeOnLane c .a).closeOnLane c .b).promote

/-- One test of the CLOSING take's end (R150). -/
def State.closeIfDone (s : State) : State :=
  match s.tkc.inState .closing with
  | none => s
  | some t => if s.unfinished t.number then s else s.closeTake t

/-- The test of R150; a take that entered CLOSING by it is tested at once. -/
def State.testClosing (s : State) : State := s.closeIfDone.closeIfDone

/-! ## Handing -/

/-- Hand a unit to its lanes; a unit of a take is counted there and the take's end is tested (R144, log 16). -/
def State.handUnit (s : State) (st : Stream) (source : Nat) (toA toB : Bool) (take : Option Nat) : State :=
  let s1 := if toA then s.handItem .a take (.unit st source) else s
  let s2 := if toB then s1.handItem .b take (.unit st source) else s1
  match take with
  | none => s2
  | some n => (s2.editTake n fun t => t.countUnit st source ((s2.ringState st).entry source)).testClosing

/-! ## Finishing of a stream state -/

/-- A record leaves the table when both streams have finished with it (R28). -/
def State.removeFinished (s : State) (source : Nat) : State :=
  { s with ti := { s.ti with table := s.ti.table.filter fun r => !(r.source == source && r.finished) } }

/-- A P state by which a picture of a take gives it no proxy unit (R145). -/
def StreamState.noProxy : StreamState → Bool
  | .abandoned | .spilled | .notCoded => true
  | .waiting | .coding | .stored => false

/-- Add to a take's proxy gap count (R145). -/
def State.addGap (s : State) (n : Nat) : State := s.editTake n fun t => { t with gaps := t.gaps + 1 }

/-- A stream finishes with a picture: its state is written, the TKC takes the event (R145, R150), and the record
leaves when both streams have finished (R28). -/
def State.finish (s : State) (st : Stream) (source : Nat) (x : StreamState) : State :=
  match s.record source with
  | none => s
  | some r =>
    let s1 := s.editRecord source fun r => r.withState st x
    match r.take with
    | none => s1.removeFinished source
    | some n =>
      let s2 := if st = .p ∧ x.noProxy then s1.addGap n else s1
      (s2.removeFinished source).testClosing

/-- Add to SC-P's gap count, which stops at 65,535 (Table 4-1). -/
def State.addProxyGap (s : State) : State := { s with scP := { s.scP with gap := add16 s.scP.gap 1 } }

/-! ## Needs of a completed unit -/

/-- The needs the TKC answers for a completed unit (R144): the table of R144 by stream and take. -/
def State.needs (s : State) (st : Stream) (take : Option Nat) : Bool × Bool :=
  match st, take.bind s.tkc.live with
  | .f, some t => (t.aF, false)
  | .f, none => (false, false)
  | .p, some t => (t.aP, t.bP && s.prs.lanes.feed != .off)
  | .p, none => (false, take.isNone && s.prs.lanes.feed == .always)

/-- The P unit of a picture that waited for its master is handed behind it (R144), also where it had no need and its
ring has released it meanwhile (the model's choice, log 47). -/
def State.handWaiting (s : State) (source : Nat) : State :=
  match s.tkc.waiting.find? fun w => w.source == source with
  | none => s
  | some w =>
    ({ s with tkc := { s.tkc with waiting := s.tkc.waiting.filter fun x => x.source != source } } : State).handUnit
      .p source w.toA w.toB (some w.take)

/-- The F state of a picture is STORED (R144). -/
def State.masterStored (s : State) (source : Nat) : Bool :=
  match s.record source with
  | some r => r.fState == .stored
  | none => true

/-- The TKC's part of a completion (R144): an F unit of a take is handed, and then its waiting P unit; a P unit of
a take is handed or waits for its master, also for one that will never be STORED (the model's choice, log 46); a P
unit of no take goes to Lane B when needed there. -/
def State.unitCompleted (s : State) (e : DirEntry) : Stream → State
  | .f =>
    match e.take.bind s.tkc.live with
    | some t => (s.handUnit .f e.source e.needA e.needB (some t.number)).handWaiting e.source
    | none => s
  | .p =>
    match e.take.bind s.tkc.live with
    | some t =>
      if s.masterStored e.source then s.handUnit .p e.source e.needA e.needB (some t.number)
      else { s with tkc := { s.tkc with waiting := s.tkc.waiting ++ [⟨e.source, t.number, e.needA, e.needB⟩] } }
    | none => s.handUnit .p e.source e.needA e.needB none

/-! ## Starting a take -/

/-- The pre-roll a start asks for, after the clamps of R139. -/
def Tkc.clampPreRoll (k : Tkc) (p : Nat) : Nat := if k.armed then min p k.pmax else 0

/-- The source number of the first picture opened after a start (R140). -/
def Tkc.firstSource (k : Tkc) : Nat :=
  match k.lastOpen with
  | some n => n + 1
  | none => 0

/-- Stream F holds a picture (R141, test 4). -/
def State.masterHeld (s : State) (n : Nat) : Bool :=
  (s.fsc.f.entry n).isSome ||
  (match s.record n with
    | some r => r.fState == .waiting || r.fState == .coding
    | none => false)

/-- A picture passes the tests of the pre-roll walk (R141, tests 2 to 5). -/
def State.joinable (s : State) (n : Nat) : Bool :=
  (match s.tkc.lastEnd with
    | some e => decide (e < (n : Int))
    | none => true) &&
  (match s.tkc.fCut with
    | some c => decide (c < n)
    | none => true) &&
  s.masterHeld n &&
  (match s.tkc.lastOpen with
    | some o => !s.tkc.armed || decide (o < n + s.tkc.pmax)
    | none => true)

/-- The pre-roll walk: how many of at most `limit` pictures just below `n` join (R141). -/
def State.preRoll (s : State) : Nat → Nat → Nat
  | 0, _ => 0
  | _ + 1, 0 => 0
  | limit + 1, n + 1 => if s.joinable n then s.preRoll limit n + 1 else 0

/-- Write a take number, and a record-run stamp if there is one, on a picture wherever it stands: its record and
its directory entries (R142). -/
def State.stampPicture (s : State) (source take : Nat) (rr : Option Label) : State :=
  ((s.editRecord source fun r => { r with take := some take, rrStamp := rr <|> r.rrStamp }).editEntry .f source
    fun e => { e with take := some take, rrStamp := rr <|> e.rrStamp }).editEntry .p source
    fun e => { e with take := some take, rrStamp := rr <|> e.rrStamp }

/-- Join one picture to a take; in record-run mode it takes the counter's label (R125, R142). -/
def State.joinPicture (s : State) (take : Nat) (source : Nat) : State :=
  match s.tcu.mode with
  | .freeRun => s.stampPicture source take none
  | .recordRun => (s.stampPicture source take (some s.tcu.recordRun)).advanceRecordRun

/-- A unit joined at a start and the lanes its needs are newly set for (R142). -/
structure Handing where
  stream : Stream
  source : Nat
  toA : Bool
  toB : Bool
  deriving DecidableEq, Repr

/-- The complete unit of a picture, with the needs that a start sets anew: none on a lane that has sent it or
already needs it (R142). -/
def State.planHanding (s : State) (t : TakeRec) (st : Stream) (source : Nat) : Option Handing :=
  ((s.ringState st).entry source).map fun e =>
    let carryA := match st with | .f => t.aF | .p => t.aP
    let carryB := match st with | .f => false | .p => t.bP
    ⟨st, source, carryA && !e.sentA && !e.needA, carryB && !e.sentB && !e.needB⟩

/-- Set the needs of a unit joined at a start (R142). -/
def State.setNeeds (s : State) (h : Handing) : State :=
  s.editEntry h.stream h.source fun e => { e with needA := e.needA || h.toA, needB := e.needB || h.toB }

/-- Hand a unit joined at a start, or let a P unit whose F unit is not complete wait for it (R142). -/
def State.deliver (s : State) (take : Nat) (h : Handing) : State :=
  if h.stream = .f ∨ (s.fsc.f.entry h.source).isSome then s.handUnit h.stream h.source h.toA h.toB (some take)
  else { s with tkc := { s.tkc with waiting := s.tkc.waiting ++ [⟨h.source, take, h.toA, h.toB⟩] } }

/-- A pre-roll picture gives the take no proxy unit although it was proxy-selected (R145, cases 2 and 3). -/
def State.preRollGap (s : State) (source : Nat) : Bool :=
  match s.record source with
  | none => false
  | some r =>
    r.proxySelected && (match r.pState with
      | some x => x.noProxy || (x == .stored && (s.fsc.p.entry source).isNone)
      | none => false)

/-- A pre-roll picture that may give the take a proxy (R142, third point). -/
def State.mayProxy (s : State) (source : Nat) : Bool :=
  (s.fsc.p.entry source).isSome ||
  (match s.record source with
    | some r => (match r.pState with | some x => !x.finished | none => false)
    | none => false)

/-- The stamp of the picture a take's F units begin with (R143). -/
def State.masterStamp (s : State) (source : Nat) : Option Label :=
  match s.fsc.f.entry source with
  | some e => some e.stamp
  | none => (s.record source).map PicRecord.stamp

/-- The next take number: after 65,535 comes 1 (R138). -/
def nextTakeNumber (n : Nat) : Nat := if n = 65535 then 1 else n + 1

/-- The Take Table with room for one more: at 64 records the CLOSED one started earliest leaves (R138). -/
def Tkc.makeRoom (k : Tkc) : Tkc :=
  if k.takes.length < 64 then k
  else { k with
    takes := k.takes.eraseP fun t => t.state == .closed
    counters := { k.counters with overflow := bump k.counters.overflow } }

/-- The record a start creates (R138, R140, R141, R146). -/
def State.newTake (s : State) (pActual : Nat) : TakeRec :=
  { number := s.tkc.nextTake, s0 := s.tkc.firstSource, pActual := pActual, s := s.tkc.firstSource - pActual
    mode := s.tcu.mode, aF := s.prs.lanes.aF, aP := s.prs.lanes.aP, bP := s.prs.lanes.feed == .takes }

/-- The TAKE OPEN marker of a take (R146). -/
def TakeRec.openMarker (t : TakeRec) : Marker := .takeOpen t.number t.s0 t.s t.pActual t.mode

/-- TAKE OPEN on a lane of the take's lane set (R146). -/
def State.openOnLane (s : State) (t : TakeRec) (l : LaneId) : State :=
  if t.onLane l then s.handItem l (some t.number) (.marker t.openMarker) else s

/-- The record created, the take number advanced, the controller RECORDING (R138, R139). -/
def State.createTake (s : State) (t : TakeRec) (clamped : Bool) : State :=
  let k := s.tkc.makeRoom
  { s with tkc := { k with
      takes := k.takes ++ [t]
      nextTake := nextTakeNumber k.nextTake
      ctl := .recording
      counters := { k.counters with
        started := bump k.counters.started
        clamped := if clamped then bump k.counters.clamped else k.counters.clamped } } }

/-- The pre-roll joined: numbers and stamps written in increasing order, gaps counted, the start stamp, needs, and
the units handed, F before P (R142, R143, R145). The start stamp stays when a cut later takes S away (log 45). -/
def State.joinPreRoll (s : State) (t : TakeRec) (sources : List Nat) : State :=
  let s1 := sources.foldl (fun s n => s.joinPicture t.number n) s
  let s2 := s1.editTake t.number fun x => { x with
    gaps := x.gaps + (sources.filter s1.preRollGap).length
    mayCarryProxy := sources.any s1.mayProxy
    startStamp := match sources.head? with
      | some n => s1.masterStamp n
      | none => none }
  let plan := sources.filterMap (s2.planHanding t .f) ++ sources.filterMap (s2.planHanding t .p)
  plan.foldl (fun s h => s.deliver t.number h) (plan.foldl State.setNeeds s2)

/-- A start, taken whole (R139 to R146). -/
def State.startTake (s : State) (p : Nat) : State :=
  let limit := s.tkc.clampPreRoll p
  let pActual := s.preRoll limit s.tkc.firstSource
  let t := s.newTake pActual
  let s1 := ((s.createTake t (decide (limit ≠ p))).openOnLane t .a).openOnLane t .b
  s1.joinPreRoll t ((List.range pActual).map fun i => t.s + i)

/-! ## Stopping a take -/

/-- The E of a stop: the last open, or S0 - 1 when that is below S0 (R149). -/
def Tkc.stopEnd (k : Tkc) (t : TakeRec) : Int :=
  match k.lastOpen with
  | some n => if n < t.s0 then (t.s0 : Int) - 1 else n
  | none => (t.s0 : Int) - 1

/-- The OPEN take leaves OPEN with an end and a reason: into CLOSING, or with a stop pending while another take is
CLOSING (R149). -/
def State.leaveOpen (s : State) (t : TakeRec) (reason : EndReason) (e : Int) : State :=
  let t1 := { t with e := some e, stopPending := some reason }
  let s1 := s.editTake t.number fun x => { x with e := some e, stopPending := some reason }
  match s.tkc.inState .closing with
  | some _ => s1
  | none => (s1.enterClosing t1).testClosing

/-- The OPEN take without a stop pending. -/
def Tkc.running (k : Tkc) : Option TakeRec :=
  match k.inState .opened with
  | some t => if t.stopPending.isSome then none else some t
  | none => none

/-! ## Cuts -/

/-- The take that a cut at `c` concerns (R152). -/
def Tkc.cutTake (k : Tkc) (c : Nat) : Option TakeRec :=
  k.takes.find? fun t =>
    match t.state, t.stopPending, t.e with
    | .opened, none, _ => decide (t.s ≤ c)
    | .opened, some _, some e => decide (t.s ≤ c) && decide ((c : Int) ≤ e)
    | .closing, _, some e => decide (t.s ≤ c) && decide ((c : Int) ≤ e)
    | .opened, some _, none | .closing, _, none | .closed, _, _ => false

/-- The new end of a cut take: its last F unit below `c`, or S - 1 when there is none (R152). -/
def TakeRec.cutEnd (t : TakeRec) (c : Nat) : Int :=
  match t.lastFull with
  | some f => if f.source < c then f.source else (t.s : Int) - 1
  | none => (t.s : Int) - 1

/-- The pictures that leave a cut take: above the new end, up to the old end or the last open (R152). -/
def State.leaves (s : State) (t : TakeRec) (newEnd : Int) (n : Nat) : Bool :=
  decide (newEnd < (n : Int)) && (match t.e, s.tkc.lastOpen with
    | some e, _ => decide ((n : Int) ≤ e)
    | none, some o => decide (n ≤ o)
    | none, none => false)

/-- An item of a hold whose unit belongs to a picture that leaves a take. -/
def State.leavingItem (s : State) (t : TakeRec) (newEnd : Int) : Item → Bool
  | .unit st source =>
    s.leaves t newEnd source && (match (s.ringState st).entry source with
      | some e => e.take == some t.number
      | none => false)
  | .marker _ => false

/-- Take the units of leaving pictures out of a hold, and clear the need they were held for (R152). -/
def State.cutHold (s : State) (t : TakeRec) (newEnd : Int) (l : LaneId) : State :=
  (s.clearNeeds l ((s.hold l).filter (s.leavingItem t newEnd))).setHold l
    ((s.hold l).filter fun i => !s.leavingItem t newEnd i)

/-- Clear the needs that were set for a unit waiting for its master (R152, log 17). -/
def State.clearWaiting (s : State) (w : Waiting) : State :=
  s.editEntry .p w.source fun e => { e with needA := e.needA && !w.toA, needB := e.needB && !w.toB }

/-- Pictures leave a take: waiting units, holds, and the take number and record-run stamp of records and entries
(R152). The cut pictures that still have a record are counted (the model's choice, log 48). -/
def State.dropPictures (s : State) (t : TakeRec) (newEnd : Int) : State :=
  let out := fun n => s.leaves t newEnd n
  let s1 := (s.cutHold t newEnd .a).cutHold t newEnd .b
  let gone := s1.tkc.waiting.filter fun w => w.take == t.number && out w.source
  let s2 := gone.foldl State.clearWaiting s1
  let wipe := fun (e : DirEntry) =>
    if e.take == some t.number && out e.source then { e with take := none, rrStamp := none } else e
  let isOut := fun (r : PicRecord) => r.take == some t.number && out r.source
  { s2 with
    tkc := { s2.tkc with
      waiting := s2.tkc.waiting.filter fun w => !(w.take == t.number && out w.source)
      counters := { s2.tkc.counters with
        cutPictures := addSat s2.tkc.counters.cutPictures (s2.ti.table.filter isOut).length } }
    fsc := { s2.fsc with
      f := { s2.fsc.f with dir := s2.fsc.f.dir.map wipe }
      p := { s2.fsc.p with dir := s2.fsc.p.dir.map wipe } }
    ti := { s2.ti with
      table := s2.ti.table.map fun r => if isOut r then { r with take := none, rrStamp := none } else r } }

/-- A cut at `c` for a spill or a RESTART (R152 to R154). -/
def State.cut (s : State) (c : Nat) (reason : EndReason) : State :=
  let s1 : State := { s with tkc := { s.tkc with fCut := match s.tkc.fCut with
    | some x => some (max x c)
    | none => some c } }
  match s1.tkc.cutTake c with
  | none => s1
  | some t =>
    let newEnd := t.cutEnd c
    let s2 := s1.dropPictures t newEnd
    if t.state = .opened ∧ t.stopPending = none then s2.leaveOpen t reason newEnd
    else
      (s2.editTake t.number fun x => { x with
        e := (x.e.map fun e => min e newEnd)
        short := x.short || (match x.e with | some e => decide (newEnd < e) | none => false) }).testClosing

/-- SC-F tells the TKC of an applied RESTART (R154): a cut at the cancelled picture, or else a stop of the OPEN take
with reason RESTART. -/
def State.restartTold (s : State) : Option Nat → State
  | some c => s.cut c .restart
  | none =>
    match s.tkc.running with
    | some t => s.leaveOpen t .restart (s.tkc.stopEnd t)
    | none => s

/-! ## Drops by the ring -/

/-- The TKC's side of a unit released by the walk while needed-by-B (R111): a P unit waiting for its master leaves
that set and is a gap of its take; a unit in the hold for Lane B leaves it. -/
def State.dropFromTkc (s : State) (st : Stream) (source : Nat) : State :=
  let w := if st = .p then s.tkc.waiting.find? fun w => w.source == source else none
  let s1 := match w with
    | some w => ({ s with tkc := { s.tkc with waiting := s.tkc.waiting.filter fun x => x.source != source } } : State).addGap
        w.take
    | none => s
  s1.setHold .b ((s1.hold .b).filter fun i => decide (i ≠ .unit st source))

/-! ## The picture-open event -/

/-- The TKC's part of a picture open (R137). -/
def State.tkcOpen (s : State) (source : Nat) (kept : Bool) : State :=
  let s1 : State := { s with tkc := { s.tkc with lastOpen := some source } }
  match s1.tkc.running with
  | none => s1
  | some t =>
    if !kept then s1
    else
      match s.tcu.mode with
      | .freeRun => s1.editRecord source fun r => { r with take := some t.number }
      | .recordRun =>
        (s1.editRecord source fun r =>
          { r with take := some t.number, rrStamp := some s.tcu.recordRun }).advanceRecordRun

/-! ## Trigger events -/

/-- The kind of a trigger event (Table 7-6). -/
inductive TrigKind where
  | toggle
  | start
  | stop
  deriving DecidableEq, Repr

def State.ignoreTrigger (s : State) : State :=
  { s with tkc := { s.tkc with counters :=
      { s.tkc.counters with ignoredTriggers := bump s.tkc.counters.ignoredTriggers } } }

/-- The TKC takes a trigger event against its own state (R157). -/
def State.triggerEvent (s : State) (k : TrigKind) : State :=
  match s.tkc.ctl with
  | .idle | .caching =>
    match k with
    | .toggle | .start => s.startTake s.tkc.pmax
    | .stop => s.ignoreTrigger
  | .recording =>
    match s.tkc.running with
    | none => s.ignoreTrigger
    | some t =>
      match k with
      | .toggle | .stop => s.leaveOpen t .trigger (s.tkc.stopEnd t)
      | .start => s.ignoreTrigger

/-! ## Directives of the TKC -/

/-- ARM (R135). -/
def ownArm (d : Directive) (s : State) : Taken :=
  let limit := fieldAt d.args 0 2
  let pmax := min limit 1024
  ⟨{ s with tkc := { s.tkc with
      pmax := pmax
      armed := true
      ctl := match s.tkc.ctl with
        | .idle => .caching
        | .caching => .caching
        | .recording => .recording } },
    if limit ≤ 1024 then .done else .doneClamped, .armed pmax⟩

def execArm (s : State) : Host.Outcome State Fault Refusal := .next (s.execute .arm ownArm)

/-- DISARM (R136). -/
def ownDisarm (_ : Directive) (s : State) : Taken :=
  match s.tkc.ctl with
  | .recording => refuse s .refusedBusy
  | .idle | .caching => ⟨{ s with tkc := { s.tkc with armed := false, ctl := .idle } }, .done, .none⟩

def execDisarm (s : State) : Host.Outcome State Fault Refusal := .next (s.execute .disarm ownDisarm)

/-- START (R139): DONE_CLAMPED when p was changed by a clamp; the reply gives the take's number, S0, S and
p_actual (R182). -/
def ownStart (d : Directive) (s : State) : Taken :=
  match s.tkc.ctl with
  | .recording => refuse s .refusedBusy
  | .idle | .caching =>
    let p := fieldAt d.args 0 2
    let limit := s.tkc.clampPreRoll p
    let t := s.newTake (s.preRoll limit s.tkc.firstSource)
    ⟨s.startTake p, if limit = p then .done else .doneClamped, .started t.number t.s0 t.s t.pActual⟩

def execStart (s : State) : Host.Outcome State Fault Refusal := .next (s.execute .start ownStart)

/-- STOP (R149): refused outside RECORDING and with a stop pending. -/
def ownStop (_ : Directive) (s : State) : Taken :=
  match s.tkc.ctl with
  | .idle | .caching => refuse s .refusedState
  | .recording =>
    match s.tkc.running with
    | none => refuse s .refusedState
    | some t =>
      let e := s.tkc.stopEnd t
      ⟨s.leaveOpen t .stop e, .done, .stopped t.number e (s.tkc.inState .closing).isNone⟩

def execStop (s : State) : Host.Outcome State Fault Refusal := .next (s.execute .stop ownStop)

/-- The mark entry a MARK adds: code, class, and the TCU's last open (R156). -/
def State.newMark (s : State) (d : Directive) : Mark :=
  { code := fieldAt d.args 0 1, cls := d.cls
    source := s.tcu.lastOpen.map LastOpen.source
    label := match s.tcu.lastOpen with
      | some o => o.label
      | none => s.tcu.freeRun }

/-- MARK (R156). -/
def ownMark (d : Directive) (s : State) : Taken :=
  if fieldAt d.args 0 1 = 0 then refuse s .refusedRange
  else
    match s.tkc.inState .opened with
    | none => refuse s .refusedState
    | some t =>
      if t.marks.length < 16 then
        ⟨s.editTake t.number fun x => { x with marks := x.marks ++ [s.newMark d] }, .done,
          .marked t.number (t.marks.length + 1)⟩
      else
        let s1 := s.editTake t.number fun x => { x with refused := x.refused + 1 }
        refuse { s1 with tkc := { s1.tkc with counters :=
          { s1.tkc.counters with marksRefused := bump s1.tkc.counters.marksRefused } } } .refusedFull

def execMark (s : State) : Host.Outcome State Fault Refusal := .next (s.execute .mark ownMark)

/-- READ TAKE (R155). -/
def ownReadTake (d : Directive) (s : State) : Taken :=
  match s.tkc.take (fieldAt d.args 0 2) with
  | some t => ⟨s, .done, .take t⟩
  | none => refuse s .refusedRange

def execReadTake (s : State) : Host.Outcome State Fault Refusal := .next (s.execute .readTake ownReadTake)

/-- CLEAR TAKES (R155). -/
def ownClearTakes (_ : Directive) (s : State) : Taken :=
  ⟨{ s with tkc := { s.tkc with takes := s.tkc.takes.filter fun t => t.state != .closed } }, .done,
    .cleared (s.tkc.takes.filter fun t => t.state == .closed).length⟩

def execClearTakes (s : State) : Host.Outcome State Fault Refusal := .next (s.execute .clearTakes ownClearTakes)

end Sys2Proof.Machine
end

