-- ==== Sys2Proof/Machine/Scaler.lean ====
section
/-! DEFINITION. The Proxy Scaler (chapter 3): selection, box decimation, the accumulation band, the Proxy Row Slots,
abandons, and its side of RESTART. -/

namespace Sys2Proof.Machine

/-! ## Geometry of the scaling (R44, R46, R47) -/

/-- Source tiles across: k for each proxy tile across (3.4). -/
def ProfileRec.sourceAcross (p : ProfileRec) : Nat := p.tilesAcross * p.scale

/-- Source tile positions: across times the H / 8 source tile rows, with H = Hp k. -/
def ProfileRec.sourceTiles (p : ProfileRec) : Nat := p.sourceAcross * (p.height * p.scale / 8)

/-- Real lines of proxy tile row j: 8, or what the last row has left (R47). -/
def ProfileRec.realLines (p : ProfileRec) (j : Nat) : Nat := min 8 (p.height - 8 * j)

/-- Columns of a component in a proxy line. -/
def ProfileRec.columns (p : ProfileRec) : Component → Nat
  | .y => p.width
  | .cb | .cr => p.width / 2

/-- Row j is the last of the proxy picture. -/
def ProfileRec.lastRow (p : ProfileRec) (j : Nat) : Bool := j + 1 == p.rows

/-- The source position whose adding completes proxy tile row j (R46, R47). -/
def ProfileRec.rowEnd (p : ProfileRec) (j : Nat) : Nat :=
  if p.lastRow j then p.sourceTiles - 1 else (p.scale * j + p.scale) * p.sourceAcross - 1

/-- A clear band for row j. -/
def ProfileRec.clearBand (p : ProfileRec) (j : Nat) : Band :=
  { y := List.replicate (p.realLines j * p.columns .y) 0
    cb := List.replicate (p.realLines j * p.columns .cb) 0
    cr := List.replicate (p.realLines j * p.columns .cr) 0
    arrived := List.replicate p.tilesAcross false }

/-! ## Adding a position to the band (R44 to R46) -/

/-- A source sample of a position: 512 in every component where the position was concealed (R45). -/
def sourceSample (c : Component) (samples : Option (List Sample)) (column line : Nat) : Nat :=
  match samples with
  | some x => sampleAt c x column line
  | none => 512

/-- What source position `pos` adds to the block of a component at proxy column `col` and line `line` of row j:
the sum of the block's k x k source samples that lie in the position's tile (R44). -/
def blockPart (p : ProfileRec) (j pos : Nat) (samples : Option (List Sample)) (c : Component) (col line : Nat) : Nat :=
  let tx := pos % p.sourceAcross
  let ty := pos / p.sourceAcross
  ((List.range p.scale).map fun dy => ((List.range p.scale).map fun dx =>
    let x := p.scale * col + dx
    let y := p.scale * (8 * j + line) + dy
    if x / c.tileColumns = tx ∧ y / 8 = ty then sourceSample c samples (x % c.tileColumns) (y % 8) else 0).sum).sum

/-- The sums of a component with a position added. -/
def addSums (p : ProfileRec) (j pos : Nat) (samples : Option (List Sample)) (c : Component) (sums : List Nat) : List Nat :=
  sums.mapIdx fun i v => v + blockPart p j pos samples c (i % p.columns c) (i / p.columns c)

/-- The band with a position added: its samples, and its proxy tile marked when it arrived as a TILE (R45). -/
def Band.add (b : Band) (p : ProfileRec) (j pos : Nat) (samples : Option (List Sample)) : Band :=
  { y := addSums p j pos samples .y b.y
    cb := addSums p j pos samples .cb b.cb
    cr := addSums p j pos samples .cr b.cr
    arrived := b.arrived.modify (pos % p.sourceAcross / p.scale) fun a => a || samples.isSome }

/-! ## A completed row (R44, R47) -/

/-- The value of a proxy sample: its block's sum over k squared, rounded half up (R44). -/
def boxValue (k sum : Nat) : Nat := (sum + k * k / 2) / (k * k)

/-- The sums of a component of the band. -/
def Band.sums (b : Band) : Component → List Nat
  | .y => b.y
  | .cb => b.cb
  | .cr => b.cr

/-- The samples of a component of proxy tile t: real lines by R44, pad lines a copy of the last real line (R47). -/
def tileComponent (p : ProfileRec) (b : Band) (j t : Nat) (c : Component) : List Sample :=
  (List.range 8).flatMap fun line => (List.range c.tileColumns).map fun col =>
    BitVec.ofNat 10 (boxValue p.scale
      ((b.sums c).getD (min line (p.realLines j - 1) * p.columns c + t * c.tileColumns + col) 0))

/-- A proxy tile of a completed row, with its concealed mark (R45). -/
def proxyTile (p : ProfileRec) (b : Band) (j t : Nat) : ProxyTile :=
  { samples := tileComponent p b j t .y ++ tileComponent p b j t .cb ++ tileComponent p b j t .cr
    concealed := !b.arrived.getD t false }

/-- The completed proxy tile row j of a picture (3.5). -/
def completedRow (c : Scaled) (b : Band) (j : Nat) : ProxyRow :=
  { source := c.source, row := j, last := c.record.lastRow j
    tiles := (List.range c.record.tilesAcross).map (proxyTile c.record b j) }

/-! ## The slots -/

/-- A begun P turn holds the row in a slot (R50, R58). -/
def State.slotTaken (s : State) (i : SlotId) : Bool :=
  match s.tc.turn with
  | some t => t.slot == some i
  | none => false

/-- The older held row is in slot 2 once a row has been put in slot 1 beside it (R49). -/
def Ps.place (p : Ps) (r : ProxyRow) : Option Ps :=
  match p.slot1, p.slot2 with
  | none, x => some { p with slot1 := some r, slot2Older := x.isSome }
  | some _, none => some { p with slot2 := some r, slot2Older := false }
  | some _, some _ => none

/-- A slot holds a row of the picture. -/
def Ps.holds (p : Ps) (i : SlotId) (source : Nat) : Bool :=
  match p.slot i with
  | some r => r.source == source
  | none => false

/-- Empty a slot unless a begun turn holds its row (R50). -/
def State.emptySlot (s : State) (i : SlotId) : State :=
  if s.slotTaken i then s else { s with ps := s.ps.setSlot i none }

/-- Empty the slots that hold rows of a picture, but for one taken by a begun turn (R51). -/
def State.emptySlotsOf (s : State) (source : Nat) : State :=
  let s1 := if s.ps.holds .one source then s.emptySlot .one else s
  if s1.ps.holds .two source then s1.emptySlot .two else s1

/-- A P turn that has begun holds a row of the picture (R52). -/
def State.turnHolds (s : State) (source : Nat) : Bool :=
  (s.slotTaken .one && s.ps.holds .one source) || (s.slotTaken .two && s.ps.holds .two source)

/-- SC-P has begun the picture: its P state is CODING, or a begun turn holds one of its rows (R52). -/
def State.proxyBegun (s : State) (source : Nat) : Bool :=
  (match s.record source with
    | some r => r.pState == some .coding
    | none => false) || s.turnHolds source

/-! ## Abandon (R51 to R53) -/

/-- The PS's own side of an abandon (R51). -/
def State.abandonPs (s : State) (source : Nat) : State :=
  let s1 := s.emptySlotsOf source
  { s1 with ps := { s1.ps with
      mode := .ignoring, band := {}
      counters := { s1.ps.counters with abandons := bump s1.ps.counters.abandons } } }

/-- The PS loses a proxy picture that SC-P has not begun: the gap count, and P state ABANDONED (R52, R54). -/
def State.loseProxy (s : State) (source : Nat) : State := s.addProxyGap.finish .p source .abandoned

/-- Post ABANDON with its source number to SC-P's pending set (R62). -/
def State.postAbandon (s : State) (source : Nat) : State := { s with scP := { s.scP with abandon := some source } }

/-- Give up the scaled proxy picture: its row `row` found no slot (R51 to R53). -/
def State.abandon (s : State) (source row : Nat) : State :=
  let begun := s.proxyBegun source
  let s1 := s.abandonPs source
  let s2 := if begun then s1.postAbandon source else s1.loseProxy source
  s2.notify (.proxySkip source row begun)

/-! ## Tapping the Tile FIFO (R46 to R48) -/

/-- A row is complete: it takes a free slot, or the picture is abandoned (R46, R49). Behind the last row j is n, and
stays so until the next selected open (the model's choice, log 40). -/
def State.rowComplete (s : State) (c : Scaled) : State :=
  match s.ps.place (completedRow c s.ps.band s.ps.row) with
  | some p => { s with ps := { p with
      row := p.row + 1
      band := c.record.clearBand (p.row + 1)
      counters := { p.counters with rowsPlaced := bump p.counters.rowsPlaced } } }
  | none => s.abandon c.source s.ps.row

/-- Add one source position; in IDLE and IGNORING it is not used (R46). -/
def State.scalePosition (s : State) (pos : Nat) (samples : Option (List Sample)) : State :=
  match s.ps.mode, s.ps.scaled with
  | .scaling, some c =>
    let s1 : State := { s with ps := { s.ps with band := s.ps.band.add c.record s.ps.row pos samples } }
    if pos = c.record.rowEnd s.ps.row then s1.rowComplete c else s1
  | .scaling, none | .idle, _ | .ignoring, _ => s

/-- The positions of a RUN in increasing order (R46). -/
def State.scaleRun (s : State) (first : Nat) : Nat → State
  | 0 => s
  | n + 1 => (s.scalePosition first none).scaleRun (first + 1) n

/-- The PS sees an entry as the TI appends it (R31, R46, R48). -/
def State.tap (s : State) : FifoEntry → State
  | .openE _ => s
  | .tileE pos samples => s.scalePosition pos (some samples)
  | .runE first count => s.scaleRun first count
  | .endE .. => { s with ps := { s.ps with mode := .idle, scaled := none } }

/-! ## The picture-open event (R40 to R43) -/

/-- The PS takes up the P record effective for a source number, if it is not the one it holds (R40), valid or not
(the model's choice against R55's words, log 41). -/
def Ps.adopt (p : Ps) (effective : Option ProfileRec) : Ps :=
  if p.adopted.map ProfileRec.serial = effective.map ProfileRec.serial then p
  else { p with adopted := effective, phase := 0 }

/-- The decimation cycle restarted by an align request (R43). -/
def Ps.align (p : Ps) (request : Bool) : Ps := if request then { p with phase := 0 } else p

/-- The adopted record, when it is a valid P profile. -/
def Ps.validAdopted (p : Ps) : Option ProfileRec :=
  match p.adopted with
  | some r => if r.valid then some r else none
  | none => none

/-- The selection test (R41). -/
def Ps.selects (p : Ps) : Bool := p.validAdopted.isSome && p.phase == 0

/-- The phase counter after the test (R41). -/
def Ps.advancePhase (p : Ps) : Ps :=
  { p with phase := match p.validAdopted with
      | some r => (p.phase + 1) % r.decimation
      | none => 0 }

/-- The PS leaves or keeps IDLE at the open of a picture it does not scale (R42). -/
def Ps.rest (p : Ps) : Ps := { p with mode := .idle, scaled := none }

/-- The scaled picture taken up (R42). -/
def Ps.begin (p : Ps) (source : Nat) (r : ProfileRec) : Ps :=
  { p with
    mode := .scaling, scaled := some ⟨source, r⟩, row := 0, band := r.clearBand 0
    counters := { p.counters with selected := bump p.counters.selected } }

/-- The PS's part of a picture open (R40 to R43). -/
def State.psOpen (s : State) (source : Nat) (kept align : Bool) : State :=
  let p := (s.ps.adopt (s.prs.p.profileAt source)).align align
  let chosen := if p.selects then p.validAdopted else none
  let p1 := p.advancePhase
  match chosen with
  | some r =>
    if kept then
      ({ s with ps := p1.begin source r } : State).editRecord source fun x =>
        { x with proxySelected := true, pState := some .waiting }
    else
      ({ s with ps := { p1.rest with
        counters := { p1.counters with selectedDrops := bump p1.counters.selectedDrops } } } : State).addProxyGap
  | none =>
    if kept then ({ s with ps := p1.rest } : State).editRecord source fun x => { x with proxySelected := false, pState := none }
    else { s with ps := p1.rest }

/-! ## RESTART of stream P (R54) -/

/-- The proxy pictures that a RESTART takes from the PS: the one it scales, and those whose rows it empties from
the slots, each once, but for those SC-P had begun (R54). -/
def State.restartedPictures (s : State) : List Nat :=
  let scaled := match s.ps.mode, s.ps.scaled with
    | .scaling, some c => [c.source]
    | .scaling, none | .idle, _ | .ignoring, _ => []
  let held := fun i => match s.ps.slot i with
    | some r => if s.slotTaken i then [] else [r.source]
    | none => []
  (scaled ++ held .one ++ held .two).eraseDups.filter fun n => !s.proxyBegun n

/-- The PS's side of a RESTART of stream P, taken at the DU's execution (R54). -/
def State.restartPs (s : State) : State :=
  let lost := s.restartedPictures
  let s1 := (s.emptySlot .one).emptySlot .two
  let s2 : State := { s1 with ps := { s1.ps with
      band := {}
      mode := match s1.ps.mode with
        | .scaling => .ignoring
        | .idle => .idle
        | .ignoring => .ignoring } }
  lost.foldl State.loseProxy s2

end Sys2Proof.Machine
end

