-- ==== Sys2Proof/Machine/Units.lean ====
section
/-! DEFINITION. The FSC's work for a context (chapter 6): reservation, the space-driven release walk, spills, the
writing of rows, and the completion of a unit. -/

namespace Sys2Proof.Machine

/-! ## Reservation (R97 to R101, R111) -/

/-- Granules of a stream's ring; none while it is not set. -/
def State.ringGranules (s : State) (st : Stream) : Nat :=
  match (s.tables st).ring with
  | some r => r.granules
  | none => 0

/-- Free granules: the ring size less allocated (R97). -/
def State.freeGranules (s : State) (st : Stream) : Nat := s.ringGranules st - (s.ringState st).allocated

/-- A request fits: enough free granules and fewer than 2,048 entries (R97, R99). -/
def State.fits (s : State) (st : Stream) (size : Nat) : Bool :=
  decide (size ≤ s.freeGranules st) && decide ((s.ringState st).dir.length < 2048)

/-- LS-B and the TKC are told of an entry the walk has released while needed-by-B (R111). -/
def State.tellDrop (s : State) (st : Stream) (source : Nat) : State :=
  let r := s.ringState st
  ((s.setRingState st { r with counters := { r.counters with laneBDrops := bump r.counters.laneBDrops } }).ringDropB
    st source).dropFromTkc st source

/-- The tail entry leaves to make room (R98). -/
def State.releaseForSpace (s : State) (st : Stream) (e : DirEntry) : State :=
  let r := (s.ringState st).dropTail [e] (s.ringState st).dir.tail
  let s1 := s.setRingState st { r with counters := { r.counters with spaceReleases := bump r.counters.spaceReleases } }
  if e.needB then s1.tellDrop st e.source else s1

/-- The space-driven release walk, over at most `k` entries (R98). -/
def State.walk (s : State) (st : Stream) (size : Nat) : Nat → State
  | 0 => s
  | k + 1 =>
    if s.fits st size then s
    else
      match (s.ringState st).dir with
      | [] => s
      | e :: _ => if e.needA then s else (s.releaseForSpace st e).walk st size k

/-- The reservation of a request that fits (R97, step 4). -/
def State.makeReservation (s : State) (st : Stream) (size : Nat) : State :=
  let r := s.ringState st
  s.setRingState st { r with
    reservation := some ⟨r.head, size⟩, running := 0, rowOffsets := [], spillLatch := false
    counters := { r.counters with reservations := bump r.counters.reservations } }

/-- Why a request failed: DIRECTORY when the granules alone would have sufficed (R99). -/
def State.spillReason (s : State) (st : Stream) (size : Nat) : SpillReason :=
  if size ≤ s.freeGranules st then .directory else .space

/-- A spill in the FSC: its counter, the latch, and one SPILL notice for a run of spills (R100). -/
def State.noteSpill (s : State) (st : Stream) (source size : Nat) : State :=
  let r := s.ringState st
  let reason := s.spillReason st size
  let shortfall := match reason with
    | .space => size - s.freeGranules st
    | .directory => 0
  let c := match reason with
    | .space => { r.counters with spillsSpace := bump r.counters.spillsSpace }
    | .directory => { r.counters with spillsDirectory := bump r.counters.spillsDirectory }
  let s1 := s.setRingState st { r with spillLatch := true, counters := c }
  if r.spillLatch then s1
  else s1.notify (.spill st source reason shortfall (r.dir.head?.map DirEntry.source))

/-- A spill: the FSC's part, and for stream F the TKC is told (R100, R101, R153). -/
def State.spill (s : State) (st : Stream) (source size : Nat) : State :=
  let s1 := s.noteSpill st source size
  match st with
  | .f => s1.cut source .spill
  | .p => s1

/-! ## Writing rows (R102) -/

/-- A finished row is written into the reservation behind the rows before it, and its offset is recorded (R102). -/
def State.writeRow (s : State) (st : Stream) (rows : Nat) (bytes : List Byte) : State :=
  let r := s.ringState st
  match r.reservation, (s.tables st).ring with
  | some v, some g =>
    let u := 64 + 4 * rows + r.running
    let x := v.start * 64 + u
    { s.setRingState st { r with running := r.running + bytes.length, rowOffsets := r.rowOffsets ++ [u] } with
      dram := Mem.writeRing g s.dram x bytes
      wordErrors := clearErrors g x bytes.length s.wordErrors }
  | _, _ => s

/-! ## Completion (R104 to R106) -/

/-- What a context hands over with a completion (R72, R93), and the record's part of the unit (R104). -/
structure Completion where
  source : Nat
  profile : ProfileRec
  coded : Nat
  startRung : Nat
  endRung : Nat
  flats : Nat
  raws : Nat
  conceals : Nat
  saturations : Nat
  gap : Nat
  record : PicRecord
  deriving DecidableEq, Repr

/-- The stored unit header: take number, stamp, reserved bytes and header check are 0 (Table 11-7, R104, R196). -/
def Completion.header (c : Completion) (st : Stream) : List Byte :=
  be 1 st.byte ++
  be 1 (unitFlags c.record.openLost c.record.truncated c.record.concealed c.record.stampRepeat
    (decide (1 ≤ c.flats)) false) ++
  be 6 c.source ++ be 6 0 ++ be 2 c.profile.width ++ be 2 c.profile.height ++ be 1 c.profile.tilesAcross ++
  be 1 c.profile.padLines ++ be 2 c.profile.rows ++ be 1 c.startRung ++ be 1 c.endRung ++ be 4 c.coded ++
  be 2 c.flats ++ be 2 c.raws ++ be 2 c.conceals ++ be 2 c.gap ++ be 26 0 ++ be 2 0

/-- The unit length: 64 + 4 n + A (R104). -/
def Completion.length (c : Completion) : Nat := 64 + 4 * c.profile.rows + c.coded

/-- The directory entry of a completed unit (Table 6-3, R106). -/
def Completion.entry (c : Completion) (offset : Nat) (needs : Bool × Bool) : DirEntry :=
  { source := c.source, offset := offset, length := c.length, rows := c.profile.rows
    frStamp := c.record.frStamp, rrStamp := c.record.rrStamp, take := c.record.take
    openLost := c.record.openLost, truncated := c.record.truncated, concealed := c.record.concealed
    stampRepeat := c.record.stampRepeat, flat := decide (1 ≤ c.flats), gap := c.gap
    needA := needs.1, needB := needs.2 }

/-- The front of the unit written: row offset table, then header (R104, steps 1 and 2). -/
def State.writeFront (s : State) (st : Stream) (c : Completion) (start : Nat) (g : Ring) : State :=
  let table := (s.ringState st).rowOffsets.flatMap (be 4)
  let x := start * 64
  { s with
    dram := Mem.writeRing g (Mem.writeRing g s.dram (x + 64) table) x (c.header st)
    wordErrors := clearErrors g x (64 + table.length) s.wordErrors }

/-- The shrink and the new entry: head behind the extent, allocated grown, no reservation (R104 step 3, R105, R106). -/
def RingState.complete (r : RingState) (e : DirEntry) (granules : Nat) : RingState :=
  { r with
    head := (e.offset + e.extent) % granules
    allocated := r.allocated + e.extent
    reservation := none, running := 0, rowOffsets := []
    dir := r.dir ++ [e] }

/-- The completion of a unit: front, shrink, entry with its needs, the TKC's handing, STORED, the counter, and the
ordinary release of the ring (R104 to R106, R109, R144). -/
def State.completeUnit (s : State) (st : Stream) (c : Completion) : State :=
  match (s.ringState st).reservation, (s.tables st).ring with
  | some v, some g =>
    let s1 := s.writeFront st c v.start g
    let e := c.entry v.start (s.needs st c.record.take)
    let s2 := s1.setRingState st ((s1.ringState st).complete e g.granules)
    let s3 := (s2.unitCompleted e st).finish st c.source .stored
    let r := s3.ringState st
    (s3.setRingState st { r with counters := { r.counters with completed := bump r.counters.completed } }).ordinaryRelease st
  | _, _ => s

end Sys2Proof.Machine
end

