-- ==== Sys2Proof/Machine/Coder.lean ====
section
/-! DEFINITION. The Tile Coder, its arbiter and the stream contexts (chapter 4): ARBITER_CHOICE, HAND_OVER,
CODE_TILE, PASS_BY_ENTRY, PASS_BY_ROW and RESTART. -/

namespace Sys2Proof.Machine

/-! ## Readiness (R57, R58) -/

/-- Where the positions covered by the leading TILE and RUN entries end, and the entries behind them (R31, R57). -/
def coverEnd : List FifoEntry → Nat → Nat × List FifoEntry
  | [], at_ => (at_, [])
  | .tileE pos _ :: rest, _ => coverEnd rest (pos + 1)
  | .runE first count :: rest, _ => coverEnd rest (first + count)
  | .openE x :: rest, at_ => (at_, .openE x :: rest)
  | .endE x a b c :: rest, at_ => (at_, .endE x a b c :: rest)

/-- The entries hold row r of a picture with n rows, and for the last row its END too (R57). -/
def rowHeld (entries : List FifoEntry) (across row rows : Nat) : Bool :=
  let c := coverEnd entries (row * across)
  decide ((row + 1) * across ≤ c.1) &&
    (row + 1 != rows || (match c.2 with | .endE .. :: _ => true | .openE _ :: _ | .tileE .. :: _ | .runE .. :: _ | [] => false))

/-- Stream F is ready (R57). With no valid F profile effective at the head OPEN's number its row has no known
width: the OPEN alone makes the stream ready, and the turn leaves SC-F INACTIVE by R12 (log 36). -/
def State.readyF (s : State) : Bool :=
  let w := s.ws .f
  let atStart := fun (_ : Unit) => match s.ti.fifo with
    | .openE source :: rest =>
      (match s.prs.f.validAt source with
        | some p => rowHeld rest p.tilesAcross 0 p.rows
        | none => true)
    | .tileE .. :: _ | .runE .. :: _ | .endE .. :: _ | [] => false
  match w.state with
  | .coding | .discarding =>
    (match s.prs.f.profile with
      | some p => rowHeld s.ti.fifo p.tilesAcross w.row p.rows
      | none => false)
  | .ready => atStart ()
  | .inactive => s.scF.activate && atStart ()

/-- Stream P is ready (R58): SC-P will take the older held row into a turn. -/
def State.readyP (s : State) : Bool :=
  let w := s.ws .p
  match s.ps.older with
  | none => false
  | some (_, r) =>
    match w.state with
    | .coding | .discarding =>
      w.picture == some r.source ||
        ((s.scP.abandon.isSome || s.scP.restart) && r.row == 0)
    | .ready => r.row == 0
    | .inactive => s.scP.activate && r.row == 0

def State.isReady (s : State) : Stream → Bool
  | .f => s.readyF
  | .p => s.readyP

/-! ## The arbiter (R59, R60) -/

/-- Both Proxy Row Slots are occupied. -/
def Ps.full (p : Ps) : Bool := p.slot1.isSome && p.slot2.isSome

/-- The proxy share N of the P profile effective for the older held row (R59, log 33). -/
def State.shareLimit (s : State) : Option Nat :=
  match s.ps.older with
  | some (_, r) => (s.prs.p.profileAt r.source).map ProfileRec.share
  | none => none

/-- Test 3 of R59: both slots occupied, or the share count at least N. -/
def State.proxyDue (s : State) : Bool :=
  s.ps.full || (match s.shareLimit with
    | some n => decide (n ≤ s.tc.share)
    | none => false)

/-- The stream the arbiter gives the turn to (R59). -/
def State.arbitrate (s : State) : Option Stream :=
  match s.readyF, s.readyP with
  | false, false => none
  | true, false => some .f
  | false, true => some .p
  | true, true =>
    if 192 ≤ s.ti.fifo.length then some .f
    else if s.proxyDue then some .p
    else some .f

/-! ## Requests and replies of RESTART (R64, R65, R183) -/

/-- The Profile Store holds a pending record for a stream (R9). -/
def StreamTables.hasPending (t : StreamTables) : Bool := t.pendingProfile.isSome || t.pendingLadder.isSome

/-- The reply-wait list of a stream (R183). -/
def State.waitList (s : State) : Stream → List ReplyTo
  | .f => s.du.waitF
  | .p => s.du.waitP

def State.setWaitList (s : State) (st : Stream) (x : List ReplyTo) : State :=
  match st with
  | .f => { s with du := { s.du with waitF := x } }
  | .p => { s with du := { s.du with waitP := x } }

/-- One DONE for each entry of a reply-wait list, in order (R65, R183). -/
def State.replyEach (s : State) (st : Stream) (cancelled : Option Nat) : List ReplyTo → State
  | [] => s
  | w :: rest =>
    (s.reply w.cls (DirKind.code .restart) w.tag .done (.restarted st cancelled)).replyEach st cancelled rest

/-- The replies to the RESTARTs a context applies; the list is emptied (R65, R183). -/
def State.answerRestarts (s : State) (st : Stream) (cancelled : Option Nat) : State :=
  (s.setWaitList st []).replyEach st cancelled (s.waitList st)

/-- A working set between pictures: picture field, row position, A, flat latch and counts cleared (R64, R66, R72, R73).
That the row position is cleared at every end of a picture, not at a RESTART alone, is the model's choice (log 49). -/
def WorkingSet.clearPicture (w : WorkingSet) : WorkingSet :=
  { w with
    picture := none, row := 0, column := 0, coded := 0, flatLatch := false
    flats := 0, raws := 0, conceals := 0, saturations := 0, firstFlat := none, unitPos := none }

/-- q0 of the active profile, 0 when none is held (R64, R76, log 5). -/
def StreamTables.startRung (t : StreamTables) : Nat :=
  match t.profile with
  | some p => p.qstart
  | none => 0

/-- The picture a RESTART cancels (R64, step 2). -/
def WorkingSet.cancelled (w : WorkingSet) : Option Nat :=
  match w.state with
  | .coding | .discarding => w.picture
  | .inactive | .ready => none

/-- The working set after a RESTART (R64, step 3; R65: an INACTIVE context stays so). -/
def WorkingSet.restarted (w : WorkingSet) (q0 : Nat) : WorkingSet :=
  { w.clearPicture with
    q := q0, debt := 0
    state := match w.state with
      | .inactive => .inactive
      | .ready | .coding | .discarding => .ready }

/-- The pending set after a RESTART has been applied (R64, step 1): the RESTART is gone, the ABANDON that was read
with it too, and ACTIVATE stays while a pending record is held. An ABANDON posted after the choice stays for the
next turn (R62, log 15). -/
def Ctx.clearForRestart (c : Ctx) (read : Option Nat) (hasPending : Bool) : Ctx :=
  { c with
    restart := false
    abandon := if c.abandon = read then none else c.abandon
    activate := c.activate && hasPending }

/-- Count an applied RESTART (R64, step 4). -/
def Ctx.countRestart (c : Ctx) : Ctx :=
  { c with counters := { c.counters with restarts := bump c.counters.restarts } }

/-- What a RESTART does with the picture in progress (R64, step 2); SC-F tells the TKC, but an INACTIVE context has
nothing to tell (R65, log 14). -/
def State.cancelPicture (s : State) (st : Stream) (cancelled : Option Nat) : State :=
  match st, cancelled with
  | .f, some c => (s.discardUnit .f).restartTold (some c)
  | .f, none => if (s.ws .f).state = .inactive then s else s.restartTold none
  | .p, some c => (s.discardUnit .p).loseProxy c
  | .p, none => s

/-- A RESTART applied at turn start (R64, R65). -/
def State.applyRestart (s : State) (st : Stream) (read : Option Nat) : State :=
  let cancelled := (s.ws st).cancelled
  let s1 := s.setCtx st ((s.ctx st).clearForRestart read (s.tables st).hasPending)
  let s2 := s1.cancelPicture st cancelled
  let s3 := s2.setWs st ((s2.ws st).restarted (s2.tables st).startRung)
  (s3.setCtx st (s3.ctx st).countRestart).answerRestarts st cancelled

/-- A RESTART executed while the context is INACTIVE, applied at once (R65). -/
def State.applyRestartInactive (s : State) (st : Stream) : State :=
  let s1 := s.setCtx st (((s.ctx st).clearForRestart (s.ctx st).abandon (s.tables st).hasPending).countRestart)
  let w := s1.ws st
  (s1.setWs st { w with q := (s1.tables st).startRung, debt := 0 }).answerRestarts st none

/-! ## ABANDON (R66) -/

/-- The context is CODING or DISCARDING the picture. -/
def WorkingSet.inPicture (w : WorkingSet) (n : Nat) : Bool := w.cancelled == some n

/-- An ABANDON applied at turn start, with the source number read at the choice (R66). -/
def State.applyAbandon (s : State) (n : Nat) : State :=
  let c := s.scP
  let s1 : State := { s with scP := { c with abandon := if c.abandon = some n then none else c.abandon } }
  if (s1.ws .p).inPicture n then
    let s2 := (s1.discardUnit .p).loseProxy n
    s2.setWs .p { (s2.ws .p).clearPicture with state := .ready }
  else
    { s1 with scP := { s1.scP with counters :=
      { s1.scP.counters with staleAbandons := bump s1.scP.counters.staleAbandons } } }

/-! ## Activation (R12) -/

/-- A pending record whose effective number the picture has reached. -/
def StreamTables.profileDue (t : StreamTables) (n : Nat) : Option ProfileRec :=
  match t.pendingProfile with
  | some p => if p.effective ≤ n then some p.record else none
  | none => none

def StreamTables.ladderDue (t : StreamTables) (n : Nat) : Option (List Nat) :=
  match t.pendingLadder with
  | some l => if l.effective ≤ n then some l.steps else none
  | none => none

/-- The tables with the due pending records active and their slots empty (R12). -/
def StreamTables.applyDue (t : StreamTables) (n : Nat) : StreamTables :=
  { t with
    profile := t.profileDue n <|> t.profile
    pendingProfile := if (t.profileDue n).isSome then none else t.pendingProfile
    ladder := t.ladderDue n <|> t.ladder
    pendingLadder := if (t.ladderDue n).isSome then none else t.pendingLadder }

/-- The rung window of a record. -/
def ProfileRec.window (p : ProfileRec) : Nat × Nat × Nat := (p.qlo, p.qstart, p.qhi)

/-- The working set after an activation (R12): `reset` says q goes to q0. -/
def WorkingSet.activated (w : WorkingSet) (p : ProfileRec) (reset : Bool) : WorkingSet :=
  match w.state with
  | .inactive => { w with state := .ready, q := p.qstart, debt := 0 }
  | .ready | .coding | .discarding =>
    { w with q := if reset then p.qstart else p.clampRung w.q, debt := p.clampDebt w.debt }

/-- Activation at a picture start (R12, R9). -/
def State.activate (s : State) (st : Stream) (n : Nat) : State :=
  let t := s.tables st
  let t1 := t.applyDue n
  let c := s.ctx st
  let s1 := (s.setTables st t1).setCtx st { c with activate := c.activate && t1.hasPending }
  let w := s1.ws st
  match t1.active, t1.ladder with
  | some p, some _ =>
    s1.setWs st (w.activated p
      ((t.ladderDue n).isSome || decide (t.profile.map ProfileRec.window ≠ t1.profile.map ProfileRec.window)))
  | some _, none | none, _ => s1.setWs st { w with state := .inactive }

/-! ## Turns -/

/-- The slot and row a P turn has taken. -/
def State.takenRow (s : State) : Option ProxyRow :=
  match s.tc.turn with
  | some t => t.slot.bind s.ps.slot
  | none => none

/-- A turn ends: the slot it took becomes free and the coder is free (R50, 4.2). -/
def State.endTurn (s : State) : State :=
  let s1 : State := match s.tc.turn with
    | some t => (match t.slot with
      | some i => { s with ps := s.ps.setSlot i none }
      | none => s)
    | none => s
  { s1 with tc := { s1.tc with turn := none } }

/-- Count a passed picture. -/
def Ctx.countPassed (c : Ctx) : Ctx := { c with counters := { c.counters with passed := bump c.counters.passed } }

/-- Write NOT CODED for a stream of a picture, unless its state there is already finished (R74, R75). -/
def State.finishNotCoded (s : State) (st : Stream) (source : Nat) : State :=
  match (s.record source).bind fun r => r.stateOf st with
  | some x => if x.finished then s else s.finish st source .notCoded
  | none => s

/-- SC-P passes a row by: only the last row of a picture leaves a trace (R75). -/
def State.passRow (s : State) (r : ProxyRow) : State :=
  if r.last then
    let s1 : State := { s with scP := s.scP.countPassed }
    s1.addProxyGap.finishNotCoded .p r.source
  else s

/-- A turn that codes nothing ends; the row granted to a P turn is passed by (R63). -/
def State.endEmptyTurn (s : State) : State :=
  match s.takenRow with
  | some r => s.endTurn.passRow r
  | none => s.endTurn

/-! ## DISCARDING rows (R68, R73) -/

/-- Remove the entries of `n` positions from the head of the FIFO; a RUN that reaches further stays, shortened
(R68, R69). -/
def dropPositions : Nat → List FifoEntry → List FifoEntry
  | _, [] => []
  | n, .tileE pos x :: rest => if n = 0 then .tileE pos x :: rest else dropPositions (n - 1) rest
  | n, .runE first count :: rest =>
    if n = 0 then .runE first count :: rest
    else if count ≤ n then dropPositions (n - count) rest
    else .runE (first + n) (count - n) :: rest
  | _, .openE x :: rest => .openE x :: rest
  | _, .endE x a b c :: rest => .endE x a b c :: rest

/-- Remove the END entry at the head (R72, R73). -/
def dropEnd : List FifoEntry → List FifoEntry
  | .endE .. :: rest => rest
  | .openE x :: rest => .openE x :: rest
  | .tileE a b :: rest => .tileE a b :: rest
  | .runE a b :: rest => .runE a b :: rest
  | [] => []

/-- Edit the Tile FIFO. -/
def State.editFifo (s : State) (f : List FifoEntry → List FifoEntry) : State :=
  { s with ti := { s.ti with fifo := f s.ti.fifo } }

/-- A DISCARDING picture has had its last row consumed (R73). -/
def State.endSpilled (s : State) (st : Stream) (source : Nat) : State :=
  let c := s.ctx st
  let s1 := s.setCtx st { c with counters := { c.counters with discarded := bump c.counters.discarded } }
  let s2 := match st with
    | .f => s1.editFifo dropEnd
    | .p => s1.addProxyGap
  (s2.setWs st { (s2.ws st).clearPicture with state := .ready }).finish st source .spilled

/-- A DISCARDING turn consumes its row and ends (R68, R73). -/
def State.discardRow (s : State) (st : Stream) (p : ProfileRec) : State :=
  let w := s.ws st
  let s1 := match st with
    | .f => s.editFifo (dropPositions p.tilesAcross)
    | .p => s
  let s2 := if w.row + 1 = p.rows then
      (match w.picture with
        | some n => s1.endSpilled st n
        | none => s1)
    else s1.setWs st { w with row := w.row + 1 }
  s2.endTurn

/-! ## Picture start (R67, R68) -/

/-- The working set at a picture start (R67, step 2). -/
def WorkingSet.begin (w : WorkingSet) (source : Nat) : WorkingSet :=
  { w.clearPicture with picture := some source, startRung := w.q }

/-- The reservation of a picture start and what follows from it (R67 steps 3 and 4, R68, R97, R100). -/
def State.reserveAndStart (s : State) (st : Stream) (source : Nat) (p : ProfileRec) : State :=
  let s1 := s.walk st p.granules (s.ringState st).dir.length
  let coding := fun (x : State) => x.editRecord source fun r => r.withState st .coding
  if s1.fits st p.granules then
    let s2 := s1.makeReservation st p.granules
    coding (s2.setWs st { s2.ws st with state := .coding, unitPos := some (s1.ringState st).head })
  else
    let s2 := s1.spill st source p.granules
    (coding (s2.setWs st { s2.ws st with state := .discarding })).discardRow st p

/-- A picture start (R67): activation, and unless it leaves the context INACTIVE, the start itself. -/
def State.startPicture (s : State) (st : Stream) (source : Nat) (activate : Bool) : State :=
  let s1 := if activate then s.activate st source else s
  match (s1.ws st).state, (s1.tables st).active with
  | .ready, some p => (s1.setWs st ((s1.ws st).begin source)).reserveAndStart st source p
  | .ready, none | .inactive, _ | .coding, _ | .discarding, _ => s1.endEmptyTurn

/-- The turn of SC-F goes on after its requests (R63, R67). -/
def State.continueF (s : State) (t : Turn) : State :=
  match (s.ws .f).state with
  | .ready | .inactive =>
    (match s.ti.fifo with
      | .openE source :: rest => (s.editFifo fun _ => rest).startPicture .f source t.activate
      | .tileE .. :: _ | .runE .. :: _ | .endE .. :: _ | [] => s.endEmptyTurn)
  | .coding => s
  | .discarding =>
    (match s.prs.f.profile with
      | some p => s.discardRow .f p
      | none => s.endEmptyTurn)

/-- The turn of SC-P goes on after its requests (R63, R67). -/
def State.continueP (s : State) (t : Turn) : State :=
  match s.takenRow with
  | none => s.endEmptyTurn
  | some r =>
    match (s.ws .p).state with
    | .ready | .inactive => if r.row = 0 then s.startPicture .p r.source t.activate else s.endEmptyTurn
    | .coding => if (s.ws .p).picture = some r.source then s else s.endEmptyTurn
    | .discarding =>
      if (s.ws .p).picture = some r.source then
        (match s.prs.p.profile with
          | some p => s.discardRow .p p
          | none => s.endEmptyTurn)
      else s.endEmptyTurn

/-- The start of a turn whose context is loaded: requests in order, then the turn goes on (R63). -/
def State.startTurn (s : State) (t : Turn) : State :=
  let s1 := if t.restart then s.applyRestart t.stream t.abandon else s
  let s2 := match t.abandon with
    | some n => if t.restart then s1 else s1.applyAbandon n
    | none => s1
  match t.stream with
  | .f => s2.continueF t
  | .p => s2.continueP t

/-! ## ARBITER_CHOICE and HAND_OVER (R59 to R63) -/

/-- The turn a choice gives, with the requests in the set at that moment and the slot it takes (R58, R62). -/
def State.newTurn (s : State) (st : Stream) : Turn :=
  let c := s.ctx st
  { stream := st
    handingOver := decide (s.tc.loaded ≠ some st)
    restart := c.restart, abandon := c.abandon, activate := c.activate
    slot := match st with
      | .f => none
      | .p => s.ps.older.map Prod.fst }

/-- The TC once a choice has been made: turn, share count and counters (R60, R61, R77). -/
def Tc.choose (c : Tc) (t : Turn) : Tc :=
  { c with
    turn := some t
    share := match t.stream with
      | .f => min (c.share + 1) 16
      | .p => 0
    counters :=
      { handOvers := if t.handingOver then bump c.counters.handOvers else c.counters.handOvers
        fTurns := match t.stream with
          | .f => bump c.counters.fTurns
          | .p => c.counters.fTurns
        pTurns := match t.stream with
          | .f => c.counters.pTurns
          | .p => bump c.counters.pTurns } }

/-- A choice of a stream (R59 to R61): a loaded context's turn goes straight on. -/
def State.giveTurn (s : State) (st : Stream) : State :=
  let t := s.newTurn st
  let s1 : State := { s with tc := s.tc.choose t }
  if t.handingOver then s1 else s1.startTurn t

/-- The arbiter's choice: only with the coder free and a stream ready (R59). -/
def State.arbiterChoice (s : State) : State :=
  match s.tc.turn, s.arbitrate with
  | none, some st => s.giveTurn st
  | none, none | some _, _ => s

/-- ARBITER_CHOICE (R57 to R63). -/
def execArbiterChoice (s : State) : Host.Outcome State Fault Refusal := .next s.arbiterChoice

/-- Save the working set into the record of the loaded context, if one is loaded (R61). -/
def State.saveWorkingSet (s : State) : State :=
  match s.tc.loaded with
  | some st => s.setCtx st { s.ctx st with ws := s.tc.ws }
  | none => s

/-- Load the working set of a context (R61). -/
def State.loadWorkingSet (s : State) (st : Stream) : State :=
  { s with tc := { s.tc with loaded := some st, ws := (s.ctx st).ws } }

/-- The save and the load of a hand-over are complete, and the turn goes on (R61, R63). -/
def State.handOver (s : State) : State :=
  match s.tc.turn with
  | none => s
  | some t =>
    if t.handingOver then
      let t1 := { t with handingOver := false }
      let s1 := s.saveWorkingSet.loadWorkingSet t.stream
      ({ s1 with tc := { s1.tc with turn := some t1 } } : State).startTurn t1
    else s

/-- HAND_OVER (R61 to R68). -/
def execHandOver (s : State) : Host.Outcome State Fault Refusal := .next s.handOver

/-! ## CODE_TILE (R69 to R72, R79 to R92) -/

/-- A position to code: its samples, or `none` for a concealed one (R70). -/
structure Piece where
  samples : Option (List Sample)
  deriving DecidableEq, Repr

/-- The next position of a turn: the head entry of the Tile FIFO, or the next tile of the row taken (R69). A row that
was scaled under another record than the active one is coded by the active one's tiles across (log 43). -/
def State.nextPiece (s : State) (t : Turn) : Option Piece :=
  match t.stream with
  | .f =>
    (match s.ti.fifo with
      | .tileE _ x :: _ => some ⟨some x⟩
      | .runE _ _ :: _ => some ⟨none⟩
      | .openE _ :: _ | .endE .. :: _ | [] => none)
  | .p =>
    (match s.takenRow with
      | some r => (match r.tiles[(s.ws .p).column]? with
        | some x => some ⟨if x.concealed then none else some x.samples⟩
        | none => none)
      | none => none)

/-- The position of the next tile of a context (R87). -/
def WorkingSet.position (w : WorkingSet) (p : ProfileRec) : Nat := w.row * p.tilesAcross + w.column

/-- The kind of the next tile of a context (R70, R87). -/
def WorkingSet.kindOf (w : WorkingSet) (p : ProfileRec) (x : Piece) (step : Nat) : TileKind :=
  tileKind x.samples w.flatLatch (ceilingTest w.coded (p.tiles - w.position p) p.ceiling) step

/-- The working set after a tile: A, counts, and the flat latch set at a failed test (R69, R87 to R89). -/
def WorkingSet.afterTile (w : WorkingSet) (p : ProfileRec) (k : TileKind) (size : Nat) : WorkingSet :=
  { w with
    coded := w.coded + size
    column := w.column + 1
    flatLatch := w.flatLatch || k == .flat
    firstFlat := if k = .flat then w.firstFlat <|> some (w.position p) else w.firstFlat
    flats := if k = .flat then w.flats + 1 else w.flats
    raws := if k = .raw then w.raws + 1 else w.raws
    conceals := if k = .concealed then w.conceals + 1 else w.conceals }

/-- Rung selection after a row, and the next row (R69, R79 to R83). -/
def WorkingSet.afterRow (w : WorkingSet) (p : ProfileRec) : WorkingSet :=
  let r := p.selectRung w.row w.coded w.debt w.q
  { w with
    q := r.1, row := w.row + 1, column := 0
    saturations := if r.2 then w.saturations + 1 else w.saturations }

/-- A context's totals and rate-control counters at a picture end (R72, R84, R92). -/
def CtxCounters.addPicture (c : CtxCounters) (w : WorkingSet) (debtClamped : Bool) : CtxCounters :=
  { c with
    flats := addSat c.flats w.flats, raws := addSat c.raws w.raws, conceals := addSat c.conceals w.conceals
    saturations := addSat c.saturations w.saturations
    debtClamps := if debtClamped then bump c.debtClamps else c.debtClamps
    flatPictures := if 1 ≤ w.flats then bump c.flatPictures else c.flatPictures }

/-- The working set at a picture end (R72, R84). -/
def WorkingSet.ended (w : WorkingSet) (p : ProfileRec) : WorkingSet :=
  { w.clearPicture with state := .ready, debt := p.clampDebt (p.rawDebt w.debt w.coded) }

/-- The completion a context hands over (R72, R93); an unheld record counts as one without flags. -/
def State.completion (s : State) (st : Stream) (source : Nat) (p : ProfileRec) (w : WorkingSet) : Completion :=
  { source := source, profile := p, coded := w.coded, startRung := w.startRung, endRung := w.q
    flats := w.flats, raws := w.raws, conceals := w.conceals, saturations := w.saturations
    gap := match st with
      | .f => 0
      | .p => s.scP.gap
    record := (s.record source).getD { source := source, frStamp := {} } }

/-- The CEILING notice of a picture that used flat tiles (R92). -/
def State.noteCeiling (s : State) (st : Stream) (source : Nat) (p : ProfileRec) (w : WorkingSet) : State :=
  if 1 ≤ w.flats then s.notify (.ceiling st source (w.firstFlat.getD 0) w.flats w.coded p.ceiling) else s

/-- The end of a CODING picture (R72): END removed, debt, totals, gap count copied and cleared, CEILING, and the
unit's completion. -/
def State.endPicture (s : State) (st : Stream) (source : Nat) (p : ProfileRec) : State :=
  let w := s.ws st
  let k := s.completion st source p w
  let s1 := match st with
    | .f => s.editFifo dropEnd
    | .p => { s with scP := { s.scP with gap := 0 } }
  let c := s1.ctx st
  let s2 := s1.setCtx st { c with
    counters := c.counters.addPicture w (p.debtClamps (p.rawDebt w.debt w.coded)) }
  ((s2.setWs st (w.ended p)).noteCeiling st source p w).completeUnit st k

/-- The end of a coded row: hand-off to the FSC, rung selection, next row; after the last row the picture ends; the
turn ends (R69, R72, R102). -/
def State.endRow (s : State) (t : Turn) (p : ProfileRec) : State :=
  let s1 := s.writeRow t.stream p.rows t.rowBytes
  let w := (s1.ws t.stream).afterRow p
  let s2 := s1.setWs t.stream w
  let s3 := if w.row = p.rows then
      (match w.picture with
        | some n => s2.endPicture t.stream n p
        | none => s2)
    else s2
  s3.endTurn

/-- Code one position of the row of a turn (R69, R70). -/
def State.codePiece (s : State) (t : Turn) (p : ProfileRec) (x : Piece) : State :=
  let w := s.ws t.stream
  let step := s.rungStep t.stream
  let k := w.kindOf p x step
  let t1 := { t with rowBytes := t.rowBytes ++ tileBytes k x.samples step (w.position p) s.freeTick }
  let w1 := w.afterTile p k (tileSize k x.samples step)
  let s1 := match t.stream with
    | .f => s.editFifo (dropPositions 1)
    | .p => s
  let s2 : State := { s1.setWs t.stream w1 with freeTick := s1.freeTick + 1 }
  let s3 : State := { s2 with tc := { s2.tc with turn := some t1 } }
  if w1.column = p.tilesAcross then s3.endRow t1 p else s3

/-- The coding of one position by the turn in progress of a CODING context (R69). -/
def State.codeTile (s : State) : State :=
  match s.tc.turn with
  | none => s
  | some t =>
    if t.handingOver then s
    else
      match (s.ws t.stream).state, (s.tables t.stream).profile, s.nextPiece t with
      | .coding, some p, some x => s.codePiece t p x
      | .coding, some _, none | .coding, none, _ | .inactive, _, _ | .ready, _, _ | .discarding, _, _ => s

/-- CODE_TILE (R69 to R72, R79 to R93, R102 to R106). -/
def execCodeTile (s : State) : Host.Outcome State Fault Refusal := .next s.codeTile

/-! ## Passing by (R74, R75) -/

/-- SC-F will not code the entry at the head of the Tile FIFO (R74). -/
def State.passesEntry (s : State) (e : FifoEntry) : Bool :=
  match (s.ws .f).state with
  | .ready => (match e with | .openE _ => false | .tileE .. | .runE .. | .endE .. => true)
  | .inactive => !s.scF.activate || (match e with | .openE _ => false | .tileE .. | .runE .. | .endE .. => true)
  | .coding | .discarding => false

/-- SC-F removes the head entry it will not code; at an END the picture is NOT CODED (R74). -/
def State.passByEntry (s : State) : State :=
  match s.ti.fifo with
  | [] => s
  | e :: rest =>
    if s.passesEntry e then
      let s1 := s.editFifo fun _ => rest
      match e with
      | .endE source _ _ _ => ({ s1 with scF := s1.scF.countPassed } : State).finishNotCoded .f source
      | .openE _ | .tileE .. | .runE .. => s1
    else s

/-- PASS_BY_ENTRY (R74). -/
def execPassByEntry (s : State) : Host.Outcome State Fault Refusal := .next s.passByEntry

/-- SC-P will not code the older held row (R75): it is READY and the row is not row 0, or it is INACTIVE and either
ACTIVATE is not in its set or the row is not row 0 (log 29). -/
def State.passesRow (s : State) (r : ProxyRow) : Bool :=
  match (s.ws .p).state with
  | .ready => r.row != 0
  | .inactive => !s.scP.activate || r.row != 0
  | .coding | .discarding => false

/-- SC-P empties the slot of a row it will not code (R75); a slot held by a begun turn stays (R50). -/
def State.passByRow (s : State) : State :=
  match s.ps.older with
  | none => s
  | some (i, r) =>
    if s.passesRow r && !s.slotTaken i then ({ s with ps := s.ps.setSlot i none } : State).passRow r else s

/-- PASS_BY_ROW (R75). -/
def execPassByRow (s : State) : Host.Outcome State Fault Refusal := .next s.passByRow

/-! ## RESTART (R54, R65, R183) -/

/-- Keep a RESTART's tag and class for its reply; with 8 entries held it is not kept (R183, R190). -/
def State.keepReply (s : State) (st : Stream) (d : Directive) : State :=
  if (s.waitList st).length < 8 then s.setWaitList st (s.waitList st ++ [⟨d.tag, d.cls⟩])
  else { s with du := { s.du with counters :=
    { s.du.counters with waitOverflows := bump s.du.counters.waitOverflows } } }

/-- RESTART as it is executed (R54, R62, R65, R183): the PS acts at once for stream P; the request is posted, and an
INACTIVE context applies it at once. -/
def State.postRestart (s : State) (st : Stream) (d : Directive) : State :=
  let s1 := match st with
    | .f => s
    | .p => s.restartPs
  let s2 := s1.keepReply st d
  let s3 := s2.setCtx st { s2.ctx st with restart := true }
  if (s3.ws st).state = .inactive then s3.applyRestartInactive st else s3

/-- The execution of a RESTART: the DU's checks, then the posting; its reply comes later (R178, R183). -/
def State.restartDirective (s : State) : State :=
  match s.du.fifo with
  | [] => s
  | d :: _ =>
    if d.code ≠ DirKind.code .restart then s
    else
      match DirKind.check .restart d with
      | some rc => s.answer d rc .none
      | none =>
        match streamOf (fieldAt d.args 0 1) with
        | none => (s.countTaken .restart).answer d .refusedRange .none
        | some st => ((s.countTaken .restart).postRestart st d).popDirective

/-- RESTART (R54, R64, R65, R183). -/
def execRestart (s : State) : Host.Outcome State Fault Refusal := .next s.restartDirective

end Sys2Proof.Machine
end

