-- ==== Sys2Proof/Machine/Timecode.lean ====
section
/-! DEFINITION. The Timecode Unit (chapter 7): REF_PULSE, REF_LOST, TRIG_EDGE, SET_TIMECODE, JAM, and its part of a
picture open. -/

namespace Sys2Proof.Machine

/-! ## The REF watch (R123) -/

/-- The loss of REF is due: eight opens since the last pulse and the state still PRESENT (R123). -/
def Tcu.lossDue (t : Tcu) : Bool := t.refPresent && decide (8 ≤ t.opensSincePulse)

/-- REF becomes LOST, when that is due, with a REF LOST notice (R123). -/
def State.takeRefLoss (s : State) : State :=
  if s.tcu.lossDue then
    ({ s with tcu := { s.tcu with
        refPresent := false, opensSinceLoss := 0
        counters := { s.tcu.counters with refLosses := bump s.tcu.counters.refLosses } } } : State).notify
      (.refLost (s.tcu.lastOpen.map LastOpen.source) s.tcu.freeRun)
  else s

/-- REF_LOST (R123): the loss that is due; the open that brings it about takes it itself (log 2). -/
def execRefLost (s : State) : Host.Outcome State Fault Refusal := .next s.takeRefLoss

/-! ## REF pulses (R122) -/

/-- Step 1: a label given to no picture is counted, and the label-taken flag is cleared. -/
def Tcu.endInterval (t : Tcu) : Tcu :=
  { t with
    labelTaken := false
    counters := if t.labelTaken then t.counters
      else { t.counters with skippedLabels := bump t.counters.skippedLabels } }

/-- Step 2: a pending jam is loaded, or the free-run counter advances (R122, R127, R129). -/
def Tcu.tick (t : Tcu) : Tcu :=
  match t.jam with
  | some j => { t with
      freeRun := j.label, jam := none, alignAwaiting := t.alignAwaiting || j.align
      counters := { t.counters with jamsLoaded := bump t.counters.jamsLoaded } }
  | none => { t with freeRun := t.freeRun.advance t.base t.drop }

/-- Step 4: the count of opens restarts and the pulse is counted. -/
def Tcu.countPulse (t : Tcu) : Tcu :=
  { t with opensSincePulse := 0, counters := { t.counters with refPulses := bump t.counters.refPulses } }

/-- Step 3: a lost REF is restored, with a REF RESTORED notice. -/
def State.restoreRef (s : State) : State :=
  if s.tcu.refPresent then s
  else ({ s with tcu := { s.tcu with refPresent := true } } : State).notify
    (.refRestored s.tcu.freeRun s.tcu.opensSinceLoss)

/-- A REF pulse (R122); a loss that is due is taken first (log 2). -/
def State.refPulse (s : State) : State :=
  let s1 := s.takeRefLoss
  let s2 := ({ s1 with tcu := s1.tcu.endInterval.tick } : State).restoreRef
  { s2 with tcu := s2.tcu.countPulse }

/-- REF_PULSE (R122). -/
def execRefPulse (s : State) : Host.Outcome State Fault Refusal := .next s.refPulse

/-! ## The picture-open event -/

/-- The TCU's record of an open: last open, label-taken flag, repeat count, and the counts of the REF watch
(R123, R124); an awaiting align request is passed on and cleared (R129). -/
def Tcu.noteOpen (t : Tcu) (source : Nat) : Tcu :=
  { t with
    labelTaken := true
    lastOpen := some ⟨source, t.freeRun⟩
    alignAwaiting := false
    opensSincePulse := min (t.opensSincePulse + 1) 8
    opensSinceLoss := if t.refPresent then t.opensSinceLoss else add16 t.opensSinceLoss 1
    counters := if t.labelTaken then { t.counters with stampRepeats := bump t.counters.stampRepeats }
      else t.counters }

/-- The TCU's part of a picture open (R123, R124, R129): at the eighth open without a pulse REF becomes LOST in the
same event, and REF LOST carries the number of that open. -/
def State.tcuOpen (s : State) (source : Nat) : State :=
  ({ s with tcu := s.tcu.noteOpen source } : State).takeRefLoss

/-! ## The trigger line (R130, R131) -/

/-- The trigger mode selects an edge (R130). -/
def TrigMode.selects (m : TrigMode) (rising : Bool) : Bool :=
  match m with
  | .off => false
  | .rising => rising
  | .falling => !rising
  | .both => true

/-- The kind of the event a selected edge gives (Table 7-6). -/
def TrigMode.kind (m : TrigMode) (rising : Bool) : TrigKind :=
  match m with
  | .both => if rising then .start else .stop
  | .off | .rising | .falling => .toggle

/-- The TCU at a selected edge: capture record and counter (R130). -/
def Tcu.loadCapture (t : Tcu) (rising : Bool) : Tcu :=
  { t with
    capture := some (match t.lastOpen with
      | some o => ⟨some o.source, o.label⟩
      | none => ⟨none, t.freeRun⟩)
    counters := if rising then { t.counters with risingEdges := bump t.counters.risingEdges }
      else { t.counters with fallingEdges := bump t.counters.fallingEdges } }

/-- An edge on TRIG (R130, R131, R157). With the line already at the level there is no edge. -/
def State.trigEdge (s : State) (rising : Bool) : State :=
  if s.tcu.trigHigh = rising then s
  else
    let s1 : State := { s with tcu := { s.tcu with trigHigh := rising } }
    if s.prs.trigger.selects rising then
      ({ s1 with tcu := s1.tcu.loadCapture rising } : State).triggerEvent (s.prs.trigger.kind rising)
    else s1

/-- TRIG_EDGE (R130, R131, R157). -/
def execTrigEdge (rising : Bool) (s : State) : Host.Outcome State Fault Refusal := .next (s.trigEdge rising)

/-! ## SET TIMECODE (R120, R121) -/

/-- A base SET TIMECODE accepts (R120). -/
def validBase (b : Nat) : Bool := [24, 25, 30, 48, 50, 60].contains b

/-- No record holds a label of the old base (R120, check 3). -/
def State.noStamps (s : State) : Bool :=
  s.ti.table.isEmpty && s.fsc.f.dir.isEmpty && s.fsc.p.dir.isEmpty && s.tkc.takes.isEmpty

/-- A change of base or drop setting (R121). -/
def Tcu.rebase (t : Tcu) (base : Nat) (drop : Bool) : Tcu :=
  { t with
    base := base, drop := drop, freeRun := {}, recordRun := {}, jam := none, alignAwaiting := false
    capture := none, labelTaken := false, lastOpen := none }

/-- SET TIMECODE as its owner takes it (R120, R121). A loss of REF that is due is taken before the change. -/
def ownSetTimecode (d : Directive) (s : State) : Taken :=
  let base := fieldAt d.args 0 1
  let drop := flagAt d.args 1
  if s.tkc.busy then refuse s .refusedBusy
  else if !validBase base || (drop && base != 30 && base != 60) then refuse s .refusedRange
  else
    match tcModeOf (fieldAt d.args 2 1) with
    | none => refuse s .refusedRange
    | some mode =>
      if base = s.tcu.base ∧ drop = s.tcu.drop then ⟨{ s with tcu := { s.tcu with mode := mode } }, .done, .none⟩
      else if !s.noStamps then refuse s .refusedBusy
      else
        let s1 := s.takeRefLoss
        ⟨{ s1 with tcu := { s1.tcu.rebase base drop with mode := mode } }, .done, .none⟩

def execSetTimecode (s : State) : Host.Outcome State Fault Refusal := .next (s.execute .setTimecode ownSetTimecode)

/-! ## JAM (R126 to R128) -/

/-- The label a JAM is taken with: a skipped label becomes the next valid one (R126, check 3). -/
def Label.clampSkipped (l : Label) (base : Nat) (drop : Bool) : Label :=
  if l.skipped base drop then { l with frames := dropFloor base } else l

/-- A free-run jam becomes the pending jam (R127). -/
def Tcu.pendJam (t : Tcu) (l : Label) (align : Bool) : Tcu := { t with jam := some ⟨l, align⟩ }

/-- A record-run jam is loaded at once (R128). -/
def Tcu.loadJam (t : Tcu) (l : Label) (align : Bool) : Tcu :=
  { t with
    recordRun := l, alignAwaiting := t.alignAwaiting || align
    counters := { t.counters with jamsLoaded := bump t.counters.jamsLoaded } }

/-- JAM as its owner takes it (R126 to R128). -/
def ownJam (d : Directive) (s : State) : Taken :=
  let l := labelAt d.args 0
  if s.tcu.mode = .recordRun ∧ s.tkc.busy then refuse s .refusedBusy
  else if !l.inRange s.tcu.base then refuse s .refusedRange
  else
    let taken := l.clampSkipped s.tcu.base s.tcu.drop
    let rc := if l.skipped s.tcu.base s.tcu.drop then ReplyCode.doneClamped else .done
    match s.tcu.mode with
    | .freeRun => ⟨{ s with tcu := s.tcu.pendJam taken (flagAt d.args 4) }, rc, .jammed taken true⟩
    | .recordRun => ⟨{ s with tcu := s.tcu.loadJam taken (flagAt d.args 4) }, rc, .jammed taken false⟩

def execJam (s : State) : Host.Outcome State Fault Refusal := .next (s.execute .jam ownJam)

end Sys2Proof.Machine
end

