-- ==== Sys2Proof/Machine/Intake.lean ====
section
/-! DEFINITION. The Tile Intake (chapter 2): OPEN, TILE, CLOSE, DIRECTIVE, FILL, BAD_PACKET and HEADER_FAILURE. -/

namespace Sys2Proof.Machine

/-! ## Link state (R19 to R21) -/

/-- Edit the TI's counters. -/
def State.countTi (s : State) (f : TiCounters → TiCounters) : State :=
  { s with ti := { s.ti with counters := f s.ti.counters } }

/-- A good header: LOCKED with no consecutive failure (R19, R20). -/
def State.goodHeader (s : State) : State := { s with ti := { s.ti with link := .locked, fails := 0 } }

/-- One more format error (R21, R22, R23, R32, R34). -/
def State.formatError (s : State) : State := s.countTi fun c => { c with formatErrors := bump c.formatErrors }

/-- A header failure (R20); in HUNT a failing candidate is not counted (R19). -/
def State.headerFailure (s : State) : State :=
  match s.ti.link with
  | .hunt => s
  | .locked =>
    let s1 := s.countTi fun c => { c with headerFailures := bump c.headerFailures }
    if s.ti.fails + 1 < 3 then { s1 with ti := { s1.ti with fails := s.ti.fails + 1 } }
    else ({ s1 with ti := { s1.ti with link := .hunt, fails := 0 } } : State).countTi fun c =>
      { c with lockLosses := bump c.lockLosses }

/-- HEADER_FAILURE (R19, R20). -/
def execHeaderFailure (s : State) : Host.Outcome State Fault Refusal := .next s.headerFailure

/-- A packet with a good header that is discarded (R21). -/
def State.badPacket (s : State) (c : BadCause) : State :=
  match c with
  | .crc => s.goodHeader.countTi fun c => { c with crcFailures := bump c.crcFailures }
  | .format => s.goodHeader.formatError

/-- BAD_PACKET (R21, R22, R23, R193). -/
def execBadPacket (c : BadCause) (s : State) : Host.Outcome State Fault Refusal := .next (s.badPacket c)

/-- FILL: its good header keeps the link LOCKED, and nothing else changes (R22). -/
def execFillPacket (s : State) : Host.Outcome State Fault Refusal := .next s.goodHeader

/-- A DIRECTIVE packet: handed to the DU with its class, or a format error (R22). -/
def State.directivePacket (s : State) (classByte code tag : Byte) (args : List Byte) : State :=
  match classOf classByte.toNat with
  | some cls => s.goodHeader.receiveDirective ⟨cls, code, tag, args⟩
  | none => s.goodHeader.formatError

/-- DIRECTIVE (R22, R176, R177). -/
def execDirectivePacket (classByte code tag : Byte) (args : List Byte) (s : State) : Host.Outcome State Fault Refusal :=
  .next (s.directivePacket classByte code tag args)

/-! ## Sorting by link sequence (R23) -/

/-- What a picture packet's link sequence says of it (R23). -/
inductive Sorted where
  | fresh
  | current
  | stale
  deriving DecidableEq, Repr

/-- Sort a picture packet by its link sequence (R23). -/
def Ti.sort (t : Ti) (linkSeq : BitVec 16) : Sorted :=
  if t.status = .idle then .fresh
  else if linkSeq = t.linkSeq then .current
  else if linkSeq = t.linkSeq - 1 then .stale
  else .fresh

/-! ## Appending entries (R30, R31) -/

/-- Free slots of the Tile FIFO (R30). -/
def Ti.free (t : Ti) : Nat := 256 - t.fifo.length

/-- Append an entry; the PS sees it at that moment (R31). -/
def State.appendEntry (s : State) (e : FifoEntry) : State :=
  ({ s with ti := { s.ti with fifo := s.ti.fifo ++ [e] } } : State).tap e

/-- Append the END of the current picture with the flags of its record (Table 2-7). -/
def State.appendEnd (s : State) : State :=
  match s.record s.ti.source with
  | some r => s.appendEntry r.endEntry
  | none => s.appendEntry (.endE s.ti.source false false false)

/-- Add to the concealed-position counter (R32, R36). -/
def State.countConcealed (s : State) (n : Nat) : State :=
  s.countTi fun c => { c with concealedPositions := addSat c.concealedPositions n }

/-! ## Truncation (R36) -/

/-- Close the OPEN current picture: flags, RUN over its missing positions, END (R36). -/
def State.truncate (s : State) : State :=
  if s.ti.status = .opened then
    let n := s.ti.tiles - s.ti.expected
    let s1 := (s.editRecord s.ti.source fun r => { r with truncated := true, concealed := true }).countConcealed n
    let s2 := s1.countTi fun c => { c with truncations := bump c.truncations }
    (s2.appendEntry (.runE s.ti.expected n)).appendEnd
  else s

/-! ## Opening a picture (R24 to R29) -/

/-- The outcome of the keep-or-drop decision (Table 2-3): kept with the effective profile's tile count, or dropped. -/
inductive Decision where
  | kept (tiles : Nat)
  | noProfile
  | geometry (w h : Nat)
  | capacity (r : CapacityReason)
  deriving DecidableEq, Repr

/-- W and H differ from the profile's (Table 2-3, check 2); an implied open carries none and passes. -/
def geometryDiffers (dims : Option (Nat × Nat)) (p : ProfileRec) : Option (Nat × Nat) :=
  match dims with
  | some (w, h) => if w = p.width ∧ h = p.height then none else some (w, h)
  | none => none

/-- The keep-or-drop decision for the picture that takes a source number (R25). -/
def State.keepOrDrop (s : State) (source : Nat) (dims : Option (Nat × Nat)) : Decision :=
  match s.prs.f.validAt source with
  | none => .noProfile
  | some p =>
    match geometryDiffers dims p with
    | some (w, h) => .geometry w h
    | none =>
      if 8 ≤ s.ti.table.length then .capacity .tableFull
      else if s.ti.free < 3 then .capacity .fifoFull
      else .kept p.tiles

/-- The record of a kept picture (R27): stamp and repeat mark are the TCU's at the open (R124). -/
def State.newRecord (s : State) (source : Nat) (openLost : Bool) : PicRecord :=
  { source := source, frStamp := s.tcu.freeRun, openLost := openLost, stampRepeat := s.tcu.labelTaken }

/-- The TI takes up a kept picture: latches, record, current picture, OPEN entry (R24, R26, R27). -/
def State.keepPicture (s : State) (source tiles : Nat) (linkSeq : BitVec 16) (openLost : Bool) : State :=
  ({ s with ti := { s.ti with
      geometryLatch := false, capacityLatch := false
      status := .opened, linkSeq := linkSeq, source := source, tiles := tiles
      expected := 0, received := 0, overrunNoted := false
      table := s.ti.table ++ [s.newRecord source openLost] } } : State).appendEntry (.openE source)

/-- The current picture is a dropped one (R24); its tile count, e and received count are 0 (the model's choice,
log 39). -/
def State.makeDropped (s : State) (source : Nat) (linkSeq : BitVec 16) : State :=
  { s with ti := { s.ti with
      status := .dropping, linkSeq := linkSeq, source := source, tiles := 0
      expected := 0, received := 0, overrunNoted := false } }

/-- A drop for GEOMETRY: counter, latch, and one notice for a run of them (R25, R26). -/
def State.noteGeometry (s : State) (source w h : Nat) : State :=
  let s1 := s.countTi fun c => { c with dropGeometry := bump c.dropGeometry }
  let s2 : State := { s1 with ti := { s1.ti with geometryLatch := true } }
  if s.ti.geometryLatch then s2 else s2.notify (.geometry source w h)

/-- A drop for want of room: counter, latch, and one notice for a run of them; it also ends a run of GEOMETRY drops
(R25, R26). -/
def State.noteCapacity (s : State) (source : Nat) (r : CapacityReason) : State :=
  let s1 := s.countTi fun c => match r with
    | .tableFull => { c with dropTableFull := bump c.dropTableFull }
    | .fifoFull => { c with dropFifoFull := bump c.dropFifoFull }
  let s2 : State := { s1 with ti := { s1.ti with geometryLatch := false, capacityLatch := true } }
  if s.ti.capacityLatch then s2 else s2.notify (.pictureDropped source r)

/-- A drop for NO PROFILE: counted, no notice; it ends a run of GEOMETRY drops (R25, R26). -/
def State.noteNoProfile (s : State) : State :=
  let s1 := s.countTi fun c => { c with dropNoProfile := bump c.dropNoProfile }
  { s1 with ti := { s1.ti with geometryLatch := false } }

/-- The picture-open event at its receivers (R29, Table 2-6): TCU, PS, FSC, TKC, LS-A, LS-B. -/
def State.openEvent (s : State) (source : Nat) (kept : Bool) : State :=
  let align := s.tcu.alignAwaiting
  let s1 := (s.tcuOpen source).psOpen source kept align
  let s2 : State := { s1 with fsc := { s1.fsc with newest := some source } }
  let s3 := (s2.ordinaryRelease .f).ordinaryRelease .p
  ((s3.tkcOpen source kept).countOpen .a).countOpen .b

/-- Take up the picture as decided (R24 to R27). -/
def State.admitPicture (s : State) (source : Nat) (linkSeq : BitVec 16) (openLost : Bool) : Decision → State
  | .kept tiles => s.keepPicture source tiles linkSeq openLost
  | .noProfile => s.noteNoProfile.makeDropped source linkSeq
  | .geometry w h => (s.noteGeometry source w h).makeDropped source linkSeq
  | .capacity r => (s.noteCapacity source r).makeDropped source linkSeq

def Decision.isKept : Decision → Bool
  | .kept _ => true
  | .noProfile | .geometry _ _ | .capacity _ => false

/-- A picture open (R24): truncation, source number, decision, new current picture, event. -/
def State.openPicture (s : State) (linkSeq : BitVec 16) (dims : Option (Nat × Nat)) (openLost : Bool) : State :=
  let s1 := s.truncate
  let source := s1.ti.nextSource
  let s2 : State := { s1 with ti := { s1.ti with nextSource := source + 1 } }
  let d := s2.keepOrDrop source dims
  (s2.admitPicture source linkSeq openLost d).openEvent source d.isKept

/-! ## OPEN (R23, R24) -/

/-- A stale OPEN or TILE (R23). -/
def State.stalePacket (s : State) : State := s.countTi fun c => { c with stale := bump c.stale }

/-- An OPEN packet (R23, R24, R193). -/
def State.takeOpen (s : State) (linkSeq seqCopy w h : BitVec 16) : State :=
  let s0 := s.goodHeader
  if seqCopy ≠ linkSeq then s0.formatError
  else
    match s0.ti.sort linkSeq with
    | .fresh => s0.openPicture linkSeq (some (w.toNat, h.toNat)) false
    | .current => s0.countTi fun c => { c with duplicateOpens := bump c.duplicateOpens }
    | .stale => s0.stalePacket

/-- OPEN (R23 to R29). -/
def execOpenPacket (linkSeq seqCopy w h : BitVec 16) (s : State) : Host.Outcome State Fault Refusal :=
  .next (s.takeOpen linkSeq seqCopy w h)

/-! ## TILE (R32 to R35) -/

/-- Add 1 to the received tile count (R32, R34). -/
def State.countReceived (s : State) : State := { s with ti := { s.ti with received := s.ti.received + 1 } }

/-- A tile that finds no room (R33). -/
def State.loseTile (s : State) : State :=
  let s1 := s.countTi fun c => { c with overrun := bump c.overrun }
  let s2 : State := { s1 with ti := { s1.ti with overrunNoted := true } }
  if s.ti.overrunNoted then s2 else s2.notify (.overrun s.ti.source)

/-- After the TILE at the last position END is appended at once and the status becomes ENDED (R32). -/
def State.endIfLast (s : State) (position : Nat) : State :=
  if position + 1 = s.ti.tiles then
    let s1 := s.appendEnd
    { s1 with ti := { s1.ti with status := .ended } }
  else s

/-- Append a TILE and move the expected position behind it (R32). -/
def State.appendTile (s : State) (position : Nat) (samples : List Sample) : State :=
  let s1 := s.appendEntry (.tileE position samples)
  ({ s1 with ti := { s1.ti with expected := position + 1 } } : State).endIfLast position

/-- A gap before an admitted tile: CONCEALED, counter, RUN (R32). -/
def State.coverGap (s : State) (position : Nat) : State :=
  let n := position - s.ti.expected
  ((s.editRecord s.ti.source fun r => { r with concealed := true }).countConcealed n).appendEntry
    (.runE s.ti.expected n)

/-- A tile below the tile count for the OPEN current picture (R30, R32, R33). -/
def State.placeTile (s : State) (position : Nat) (samples : List Sample) : State :=
  if position < s.ti.expected then s.countTi fun c => { c with duplicateTiles := bump c.duplicateTiles }
  else if position = s.ti.expected then
    if 3 ≤ s.ti.free then s.appendTile position samples else s.loseTile
  else if 4 ≤ s.ti.free then (s.coverGap position).appendTile position samples
  else s.loseTile

/-- A TILE that belongs to the current picture, by the picture's status (R32, R34). -/
def State.currentTile (s : State) (position : Nat) (samples : List Sample) : State :=
  match s.ti.status with
  | .opened => if s.ti.tiles ≤ position then s.formatError else s.countReceived.placeTile position samples
  | .ended =>
    if s.ti.tiles ≤ position then s.formatError
    else s.countReceived.countTi fun c => { c with duplicateTiles := bump c.duplicateTiles }
  | .dropping => s.countTi fun c => { c with droppedTiles := bump c.droppedTiles }
  | .idle => s

/-- A TILE packet (R23, R32 to R35, R193): its payload holds 1,280 sample bytes, anything else is a format error. -/
def State.takeTile (s : State) (linkSeq position : BitVec 16) (bytes : List Byte) : State :=
  let s0 := s.goodHeader
  if bytes.length ≠ 1280 then s0.formatError
  else
    match s0.ti.sort linkSeq with
    | .fresh =>
      ((s0.countTi fun c => { c with impliedOpens := bump c.impliedOpens }).openPicture linkSeq none true).currentTile
        position.toNat (unpackSamples bytes)
    | .current => s0.currentTile position.toNat (unpackSamples bytes)
    | .stale => s0.stalePacket

/-- TILE (R23, R32 to R35). -/
def execTilePacket (linkSeq position : BitVec 16) (bytes : List Byte) (s : State) : Host.Outcome State Fault Refusal :=
  .next (s.takeTile linkSeq position bytes)

/-! ## CLOSE (R37) -/

/-- A CLOSE of an OPEN or ENDED current picture is compared with the received count (R37). -/
def State.compareClose (s : State) (count : Nat) : State :=
  if count = s.ti.received then s
  else (s.countTi fun c => { c with closeMismatches := bump c.closeMismatches }).editRecord s.ti.source fun r =>
    { r with concealed := true }

/-- A CLOSE that closes no current picture (R23). -/
def State.unmatchedClose (s : State) : State := s.countTi fun c => { c with unmatchedCloses := bump c.unmatchedCloses }

/-- A CLOSE packet (R23, R37). -/
def State.takeClose (s : State) (linkSeq count : BitVec 16) : State :=
  let s0 := s.goodHeader
  match s0.ti.sort linkSeq with
  | .fresh | .stale => s0.unmatchedClose
  | .current =>
    match s0.ti.status with
    | .opened | .ended => s0.compareClose count.toNat
    | .dropping | .idle => s0

/-- CLOSE (R23, R37). -/
def execClosePacket (linkSeq count : BitVec 16) (s : State) : Host.Outcome State Fault Refusal :=
  .next (s.takeClose linkSeq count)

end Sys2Proof.Machine
end

