-- ==== Sys2Proof/Machine/Profiles.lean ====
section
/-! DEFINITION. The Profile Store (chapter 1): LOAD_PROFILE, LOAD_LADDER, SET_RING, SET_LANES, SET_LANE_B_FEED,
SET_TRIGGER, and the derived quantities of R5 to R7. -/

namespace Sys2Proof.Machine

/-! ## Derived quantities (R5 to R7) -/

/-- Numerator and denominator of a rate code (Table 1-3). -/
def rateFraction : Nat → Option (Nat × Nat)
  | 0 => some (24000, 1001)
  | 1 => some (24, 1)
  | 2 => some (25, 1)
  | 3 => some (30000, 1001)
  | 4 => some (30, 1)
  | 5 => some (48, 1)
  | 6 => some (50, 1)
  | 7 => some (60000, 1001)
  | 8 => some (60, 1)
  | _ => none

/-- The settings a LOAD PROFILE carries, whichever the stream (Table 1-2): W and H are those of stream F; k, d and N
are 1, 1 and 0 for stream F. -/
structure Settings where
  width : Nat
  height : Nat
  scale : Nat
  decimation : Nat
  share : Nat
  rateCode : Nat
  rate : Nat
  ceiling : Nat
  qlo : Nat
  qstart : Nat
  qhi : Nat
  stride : Nat
  deriving DecidableEq, Repr

/-- The picture target before its clamps: floor(rate x 125 x denominator x d / numerator) (R6). -/
def Settings.rawTarget (x : Settings) : Nat :=
  match rateFraction x.rateCode with
  | some (num, den) => x.rate * 125 * den * x.decimation / num
  | none => 0

/-- The clamps of the picture target, in order (R6). -/
def clampTarget (raw ceilingC rows : Nat) : Nat :=
  let t := if ceilingC < raw then ceilingC else raw
  if t < 16 * rows then 16 * rows else t

/-- A reservation: 64 + 4 n + C rounded up to a multiple of 64 (R7). -/
def reservationBytes (rows ceilingC : Nat) : Nat := (64 + 4 * rows + ceilingC + 63) / 64 * 64

/-- Tile rows of the stream's picture: H / 8, or ceil(Hp / 8) (R5). -/
def Settings.rows (x : Settings) : Nat := (x.height / x.scale + 7) / 8

/-- Tiles across: W / 64, or Wp / 64 (R5). -/
def Settings.across (x : Settings) : Nat := x.width / x.scale / 64

/-- Tiles of the stream's picture (R5). -/
def Settings.tiles (x : Settings) : Nat := x.across * x.rows

/-- A record with its derived quantities (R5 to R7). Where k does not divide W or H, which only a record made invalid
by R11 meets, the quotients are rounded down (the model's choice, log 38). -/
def Settings.record (x : Settings) (valid : Bool) (serial : Nat) : ProfileRec :=
  let target := clampTarget x.rawTarget x.ceiling x.rows
  { valid := valid, serial := serial
    width := x.width / x.scale, height := x.height / x.scale
    scale := x.scale, decimation := x.decimation, share := x.share
    rateCode := x.rateCode, rate := x.rate, ceiling := x.ceiling
    qlo := x.qlo, qstart := x.qstart, qhi := x.qhi, stride := x.stride
    tilesAcross := x.across, rows := x.rows, tiles := x.tiles
    padLines := 8 * x.rows - x.height / x.scale
    target := target, rowTarget := target / x.rows
    reservation := reservationBytes x.rows x.ceiling }

/-- The load clamps a field or the picture target (R2, R3, R4, R6). -/
def Settings.clamped (x : Settings) (ceilingClamped : Bool) : Bool :=
  ceilingClamped || decide (clampTarget x.rawTarget x.ceiling x.rows ≠ x.rawTarget)

/-- A ring holds two reservations of a record (R7). -/
def holdsTwo (r : Ring) (rows ceilingC : Nat) : Bool := decide (2 * reservationBytes rows ceilingC ≤ r.bytes)

/-- The rung window lies within a ladder: qlo, q0, qhi in order and at most L - 1 (Table 1-2). -/
def Settings.windowFits (x : Settings) (steps : List Nat) : Bool :=
  decide (x.qlo ≤ x.qstart) && decide (x.qstart ≤ x.qhi) && decide (x.qhi < steps.length)

/-! ## The arguments of LOAD PROFILE (Table 11-4) -/

/-- Settings of a load for stream F, with C clamped (R2). -/
def fSettings (args : List Byte) : Settings :=
  { width := fieldAt args 2 2, height := fieldAt args 4 2, scale := 1, decimation := 1, share := 0
    rateCode := fieldAt args 1 1, rate := fieldAt args 6 4, ceiling := min (fieldAt args 10 4) 8388608
    qlo := fieldAt args 14 1, qstart := fieldAt args 15 1, qhi := fieldAt args 16 1, stride := fieldAt args 17 1 }

/-- Settings of a load for stream P over the W and H of an F profile, with C clamped (R3). -/
def pSettings (args : List Byte) (w h : Nat) : Settings :=
  { width := w, height := h, scale := fieldAt args 2 1, decimation := fieldAt args 3 1, share := fieldAt args 4 1
    rateCode := fieldAt args 1 1, rate := fieldAt args 6 4, ceiling := min (fieldAt args 10 4) 2097152
    qlo := fieldAt args 14 1, qstart := fieldAt args 15 1, qhi := fieldAt args 16 1, stride := fieldAt args 17 1 }

/-- The settings of a held P record over other W and H (R11). -/
def ProfileRec.settingsOver (p : ProfileRec) (w h : Nat) : Settings :=
  { width := w, height := h, scale := p.scale, decimation := p.decimation, share := p.share
    rateCode := p.rateCode, rate := p.rate, ceiling := p.ceiling
    qlo := p.qlo, qstart := p.qstart, qhi := p.qhi, stride := p.stride }

/-- C as sent exceeds the largest ceiling of a stream. -/
def ceilingClamped (args : List Byte) (limit : Nat) : Bool := decide (limit < fieldAt args 10 4)

/-- The W, H or rate code of a load differ from a record's (R2, R11). -/
def Settings.changes (x : Settings) (p : ProfileRec) : Bool :=
  decide (x.width ≠ p.width) || decide (x.height ≠ p.height) || decide (x.rateCode ≠ p.rateCode)

/-- A value lies in a range. -/
def inRange (lo hi v : Nat) : Bool := decide (lo ≤ v) && decide (v ≤ hi)

/-! ## Pending records (R9) -/

/-- A new pending profile: the slot overwritten, ACTIVATE posted (R9). -/
def State.pendProfile (s : State) (st : Stream) (r : ProfileRec) : State :=
  let s1 := s.setTables st { s.tables st with pendingProfile := some ⟨r, s.ti.nextSource⟩ }
  (s1.setCtx st { s1.ctx st with activate := true })

/-- A new pending ladder: the slot overwritten, ACTIVATE posted (R9). -/
def State.pendLadder (s : State) (st : Stream) (steps : List Nat) : State :=
  let s1 := s.setTables st { s.tables st with pendingLadder := some ⟨steps, s.ti.nextSource⟩ }
  (s1.setCtx st { s1.ctx st with activate := true })

/-- The next record's serial number is used up (log 11). -/
def State.useSerial (s : State) : State := { s with prs := { s.prs with nextSerial := s.prs.nextSerial + 1 } }

/-! ## LOAD PROFILE -/

/-- The checks of R2, in order; `none`: every check passes. -/
def State.checkF (s : State) (x : Settings) : Option ReplyCode :=
  let n := s.ti.nextSource
  if s.tkc.busy && (match s.prs.f.profileAt n with | some p => x.changes p | none => false) then some .refusedBusy
  else
    match s.prs.f.ring with
    | none => some .refusedRange
    | some ring =>
      if x.width % 64 ≠ 0 || !inRange 1280 4096 x.width || decide (x.height % 8 ≠ 0) || !inRange 720 2176 x.height then
        some .refusedRange
      else if (rateFraction x.rateCode).isNone || !inRange 10000 800000 x.rate then some .refusedRange
      else if !inRange 1 4 x.stride then some .refusedRange
      else if !(match s.prs.f.ladderAt n with | some l => x.windowFits l | none => false) then some .refusedRange
      else if x.ceiling < 16 * x.tiles then some .refusedRange
      else if !holdsTwo ring x.rows x.ceiling then some .refusedRange
      else none

/-- The P settings rederived over new F settings are fit (R11). -/
def Settings.fitsP (x : Settings) (fRate : Nat) (ring : Option Ring) : Bool :=
  decide (x.width % x.scale = 0) && decide (x.width / x.scale % 64 = 0) && decide (x.height % x.scale = 0) &&
  decide (x.rateCode = fRate) && decide (16 * x.tiles ≤ x.ceiling) &&
  (match ring with | some r => holdsTwo r x.rows x.ceiling | none => false)

/-- What an F load does to stream P (R11): the P record rederived, or none when it leaves P alone. Its T is that of P's
own rate code, also where the new F rate code differs and the record is invalid (the model's choice, log 38). -/
def State.rederiveP (s : State) (x : Settings) : Option ProfileRec :=
  let n := s.ti.nextSource
  match s.prs.f.profileAt n, s.prs.p.profileAt n with
  | some f, some p =>
    if x.changes f then
      let y := p.settingsOver x.width x.height
      some (y.record (y.fitsP x.rateCode s.prs.p.ring) s.prs.nextSerial)
    else none
  | some _, none | none, _ => none

/-- A load for stream F that has passed (R2, R4, R9, R11). The rederivation is judged against the tables as they
stood before the load. -/
def State.loadF (s : State) (x : Settings) (ceilingWasClamped : Bool) : Taken :=
  let s1 := s.useSerial.pendProfile .f (x.record true s.prs.nextSerial)
  let plain := if x.clamped ceilingWasClamped then ReplyCode.doneClamped else .done
  let data := ReplyData.loaded .f s.ti.nextSource
  match s.rederiveP x with
  | some p =>
    ⟨s1.useSerial.pendProfile .p { p with serial := s1.prs.nextSerial },
      if p.valid then plain else .doneConflict, data⟩
  | none => ⟨s1, plain, data⟩

/-- The checks of R3 in order, every failure REFUSED_RANGE; `some x`: every check passes, with settings `x`. -/
def State.checkP (s : State) (args : List Byte) : Option Settings :=
  let n := s.ti.nextSource
  match s.prs.p.ring, s.prs.f.validAt n with
  | some ring, some f =>
    let x := pSettings args f.width f.height
    if inRange 2 4 x.scale && inRange 1 4 x.decimation && inRange 1 4 x.stride && inRange 1 16 x.share &&
        inRange 500 40000 x.rate &&
        decide (f.width % x.scale = 0) && decide (f.width / x.scale % 64 = 0) && decide (f.height % x.scale = 0) &&
        decide (x.rateCode = f.rateCode) &&
        (match s.prs.p.ladderAt n with | some l => x.windowFits l | none => false) &&
        decide (16 * x.tiles ≤ x.ceiling) && holdsTwo ring x.rows x.ceiling then
      some x
    else none
  | some _, none | none, _ => none

/-- A load for stream P that has passed (R3, R4, R9). -/
def State.loadP (s : State) (x : Settings) (ceilingWasClamped : Bool) : Taken :=
  ⟨s.useSerial.pendProfile .p (x.record true s.prs.nextSerial),
    if x.clamped ceilingWasClamped then .doneClamped else .done, .loaded .p s.ti.nextSource⟩

/-- LOAD PROFILE: the stream byte first (R194), then the checks of its stream. -/
def ownLoadProfile (d : Directive) (s : State) : Taken :=
  match streamOf (fieldAt d.args 0 1) with
  | none => refuse s .refusedRange
  | some .f =>
    match s.checkF (fSettings d.args) with
    | some rc => refuse s rc
    | none => s.loadF (fSettings d.args) (ceilingClamped d.args 8388608)
  | some .p =>
    match s.checkP d.args with
    | some x => s.loadP x (ceilingClamped d.args 2097152)
    | none => refuse s .refusedRange

def execLoadProfile (s : State) : Host.Outcome State Fault Refusal := .next (s.execute .loadProfile ownLoadProfile)

/-! ## LOAD LADDER -/

/-- No step is smaller than the one before it (R8, check 3). -/
def neverDecreases : List Nat → Bool
  | a :: b :: rest => decide (a ≤ b) && neverDecreases (b :: rest)
  | [_] | [] => true

/-- The checks of R8. -/
def State.ladderFits (s : State) (st : Stream) (steps : List Nat) : Bool :=
  inRange 2 32 steps.length && steps.all (inRange 1 4095) && neverDecreases steps &&
  (match (s.tables st).validAt s.ti.nextSource with
    | some p => decide (p.qhi < steps.length)
    | none => true)

/-- LOAD LADDER (R8, R9). -/
def ownLoadLadder (d : Directive) (s : State) : Taken :=
  match streamOf (fieldAt d.args 0 1) with
  | none => refuse s .refusedRange
  | some st =>
    let steps := ladderSteps d.args (fieldAt d.args 1 1)
    if s.ladderFits st steps then ⟨s.pendLadder st steps, .done, .loaded st s.ti.nextSource⟩
    else refuse s .refusedRange

def execLoadLadder (s : State) : Host.Outcome State Fault Refusal := .next (s.execute .loadLadder ownLoadLadder)

/-! ## SET RING -/

def Stream.other : Stream → Stream
  | .f => .p
  | .p => .f

/-- No page of one ring lies in the other (R13). -/
def Ring.disjoint (a b : Ring) : Bool := decide (a.base + a.pages ≤ b.base) || decide (b.base + b.pages ≤ a.base)

/-- The ring holds two reservations of a profile, if the profile is valid (R13). -/
def Ring.holds (r : Ring) : Option ProfileRec → Bool
  | some p => !p.valid || decide (2 * p.reservation ≤ r.bytes)
  | none => true

/-- The stream's ring may be replaced: TKC IDLE, directory empty, no reservation in progress (R13). -/
def State.ringFree (s : State) (st : Stream) : Bool :=
  s.tkc.ctl == .idle && (s.ringState st).dir.isEmpty && (s.ringState st).reservation.isNone

/-- The range checks of R13. -/
def State.ringFits (s : State) (st : Stream) (r : Ring) : Bool :=
  decide (1 ≤ r.pages) && decide (r.base + r.pages ≤ 65536) &&
  (match (s.tables st.other).ring with | some o => r.disjoint o | none => true) &&
  r.holds (s.tables st).profile && r.holds ((s.tables st).pendingProfile.map PendingProfile.record)

/-- A ring set: the table, and the FSC's ring state at its start (R13, R95). -/
def State.setRing (s : State) (st : Stream) (r : Ring) : State :=
  let s1 := s.setTables st { s.tables st with ring := some r }
  s1.setRingState st { s1.ringState st with
    tail := 0, head := 0, allocated := 0, reservation := none, spillLatch := false }

/-- SET RING (R13). -/
def ownSetRing (d : Directive) (s : State) : Taken :=
  match streamOf (fieldAt d.args 0 1) with
  | none => refuse s .refusedRange
  | some st =>
    let r : Ring := ⟨fieldAt d.args 1 2, fieldAt d.args 3 4⟩
    if !s.ringFree st then refuse s .refusedBusy
    else if !s.ringFits st r then refuse s .refusedRange
    else ⟨s.setRing st r, .done, .none⟩

def execSetRing (s : State) : Host.Outcome State Fault Refusal := .next (s.execute .setRing ownSetRing)

/-! ## The lane map and the trigger mode -/

/-- The lane map replaced. -/
def State.setLaneMap (s : State) (m : LaneMap) : State := { s with prs := { s.prs with lanes := m } }

/-- The lane map a SET LANES asks for, with P stored for Lane B, and whether F was named for it; none: a code or
Bmax outside its values (R14). -/
def laneRequest (args : List Byte) : Option (LaneMap × Bool) :=
  match carriageOf (fieldAt args 0 1), carriageOf (fieldAt args 1 1), feedOf (fieldAt args 2 1),
      streamOf (fieldAt args 3 1), inRange 1 16 (fieldAt args 4 1) with
  | some aF, some aP, some feed, some st, true => some (⟨aF, aP, feed, .p, fieldAt args 4 1⟩, st == .f)
  | some _, some _, some _, some _, false | some _, some _, some _, none, _ | some _, some _, none, _, _
  | some _, none, _, _, _ | none, _, _, _, _ => none

/-- Two lane maps agree but for Lane B's feed and Bmax (R14). -/
def LaneMap.sameCarriage (a b : LaneMap) : Bool := a.aF == b.aF && a.aP == b.aP && a.bStream == b.bStream

/-- SET LANES (R14). -/
def ownSetLanes (d : Directive) (s : State) : Taken :=
  match laneRequest d.args with
  | none => refuse s .refusedRange
  | some (m, namedF) =>
    if s.tkc.busy && !m.sameCarriage s.prs.lanes then refuse s .refusedBusy
    else ⟨s.setLaneMap m, if namedF then .doneConflict else .done, .none⟩

def execSetLanes (s : State) : Host.Outcome State Fault Refusal := .next (s.execute .setLanes ownSetLanes)

/-- SET LANE B FEED (R15). -/
def ownSetLaneBFeed (d : Directive) (s : State) : Taken :=
  match feedOf (fieldAt d.args 0 1), inRange 1 16 (fieldAt d.args 1 1) with
  | some feed, true => ⟨s.setLaneMap { s.prs.lanes with feed := feed, bmax := fieldAt d.args 1 1 }, .done, .none⟩
  | some _, false | none, _ => refuse s .refusedRange

def execSetLaneBFeed (s : State) : Host.Outcome State Fault Refusal := .next (s.execute .setLaneBFeed ownSetLaneBFeed)

/-- SET TRIGGER (R16). -/
def ownSetTrigger (d : Directive) (s : State) : Taken :=
  match trigModeOf (fieldAt d.args 0 1) with
  | some m => ⟨{ s with prs := { s.prs with trigger := m } }, .done, .none⟩
  | none => refuse s .refusedRange

def execSetTrigger (s : State) : Host.Outcome State Fault Refusal := .next (s.execute .setTrigger ownSetTrigger)

end Sys2Proof.Machine
end

