-- ==== Sys2Proof/Machine/Resets.lean ====
section
/-! DEFINITION. The two resets: RESET_LINE (R17, R39, R55, R76, R116, R132, R158, R173, R191) and the RESET directive
(R18, R39, R55, R76, R116, R133, R158, R174, R184, R190). -/

namespace Sys2Proof.Machine

/-! ## RESET_LINE -/

/-- The part after the reset line: as State.reset, with the TRIG level of the line (R132). DRAM contents, what its
words hold in error, the model's counter and the commands still to come are the outside's (log 6). -/
def State.afterResetLine (s : State) (trigHigh : Bool) : State :=
  { State.reset with
    tcu := { State.reset.tcu with trigHigh := trigHigh }
    dram := s.dram, wordErrors := s.wordErrors, freeTick := s.freeTick, pending := s.pending }

/-- RESET_LINE. -/
def execResetLine (trigHigh : Bool) (s : State) : Host.Outcome State Fault Refusal :=
  .next (s.afterResetLine trigHigh)

/-! ## RESET -/

/-- The tables of a stream after the RESET directive: pending records promoted (R18). -/
def StreamTables.promote (t : StreamTables) : StreamTables :=
  { t with
    profile := match t.pendingProfile with
      | some p => some p.record
      | none => t.profile
    pendingProfile := none
    ladder := match t.pendingLadder with
      | some l => some l.steps
      | none => t.ladder
    pendingLadder := none }

/-- The working set of a context after the RESET directive (R18, R76). -/
def StreamTables.resetContext (t : StreamTables) : WorkingSet :=
  { state := if t.active.isSome && t.ladder.isSome then .ready else .inactive
    q := match t.profile with
      | some p => p.qstart
      | none => 0 }

/-- The TCU after the RESET directive (R133). -/
def Tcu.afterReset (t : Tcu) : Tcu :=
  { t with
    recordRun := {}, jam := none, alignAwaiting := false, capture := none, labelTaken := false
    lastOpen := none, counters := {} }

/-- The reset of every block but the lane senders (R184, R190). -/
def State.resetBlocks (s : State) : State :=
  let prs := { s.prs with f := s.prs.f.promote, p := s.prs.p.promote }
  { s with
    ti := {}
    du := { s.du with waitF := [], waitP := [], counters := {} }
    prs := prs
    ps := {}
    tc := {}
    scF := { ws := prs.f.resetContext }
    scP := { ws := prs.p.resetContext }
    fsc := {}
    tcu := s.tcu.afterReset
    tkc := {} }

/-- The RESET directive on the picture plane: the packets being sent are completed within the step (R174, log 28),
and the lane senders are reset last (R184). -/
def State.resetPlane (s : State) : State := (s.resetBlocks.resetLane .a).resetLane .b

/-- RESET as its owners take it; a loss of REF that is due is taken first (log 2). -/
def ownReset (_ : Directive) (s : State) : Taken := ⟨s.takeRefLoss.resetPlane, .done, .none⟩

/-- RESET (R184): the reply is the first report on Lane A after the lane senders' reset. -/
def execReset (s : State) : Host.Outcome State Fault Refusal := .next (s.execute .reset ownReset)

end Sys2Proof.Machine
end

