-- ==== Sys2Proof/Machine/Dispatch.lean ====
section
/-! DEFINITION. One arm per command. -/

namespace Sys2Proof.Machine

/-- The effect of a command on everything but the queue. -/
def exec (i : Instr) (s : State) : Host.Outcome State Fault Refusal :=
  match i with
  | .resetLine trigHigh => Sys2Proof.Machine.execResetLine trigHigh s
  | .headerFailure => Sys2Proof.Machine.execHeaderFailure s
  | .badPacket cause => Sys2Proof.Machine.execBadPacket cause s
  | .openPacket linkSeq seqCopy w h => Sys2Proof.Machine.execOpenPacket linkSeq seqCopy w h s
  | .tilePacket linkSeq position bytes => Sys2Proof.Machine.execTilePacket linkSeq position bytes s
  | .closePacket linkSeq count => Sys2Proof.Machine.execClosePacket linkSeq count s
  | .directivePacket classByte code tag args => Sys2Proof.Machine.execDirectivePacket classByte code tag args s
  | .fillPacket => Sys2Proof.Machine.execFillPacket s
  | .refPulse => Sys2Proof.Machine.execRefPulse s
  | .refLost => Sys2Proof.Machine.execRefLost s
  | .trigEdge rising => Sys2Proof.Machine.execTrigEdge rising s
  | .creditPulse lane => Sys2Proof.Machine.execCreditPulse lane s
  | .laneStall lane => Sys2Proof.Machine.execLaneStall lane s
  | .lanePacketSent lane => Sys2Proof.Machine.execLanePacketSent lane s
  | .arbiterChoice => Sys2Proof.Machine.execArbiterChoice s
  | .handOver => Sys2Proof.Machine.execHandOver s
  | .codeTile => Sys2Proof.Machine.execCodeTile s
  | .passByEntry => Sys2Proof.Machine.execPassByEntry s
  | .passByRow => Sys2Proof.Machine.execPassByRow s
  | .loadProfile => Sys2Proof.Machine.execLoadProfile s
  | .loadLadder => Sys2Proof.Machine.execLoadLadder s
  | .setRing => Sys2Proof.Machine.execSetRing s
  | .setLanes => Sys2Proof.Machine.execSetLanes s
  | .setLaneBFeed => Sys2Proof.Machine.execSetLaneBFeed s
  | .setTrigger => Sys2Proof.Machine.execSetTrigger s
  | .setTimecode => Sys2Proof.Machine.execSetTimecode s
  | .jam => Sys2Proof.Machine.execJam s
  | .arm => Sys2Proof.Machine.execArm s
  | .disarm => Sys2Proof.Machine.execDisarm s
  | .start => Sys2Proof.Machine.execStart s
  | .stop => Sys2Proof.Machine.execStop s
  | .mark => Sys2Proof.Machine.execMark s
  | .query => Sys2Proof.Machine.execQuery s
  | .readTake => Sys2Proof.Machine.execReadTake s
  | .clearTakes => Sys2Proof.Machine.execClearTakes s
  | .restart => Sys2Proof.Machine.execRestart s
  | .reset => Sys2Proof.Machine.execReset s
  | .unknownDirective => Sys2Proof.Machine.execUnknownDirective s

end Sys2Proof.Machine
end

