-- ==== Sys2Proof/WellFormed.lean ====
section
/-! DEFINITION. Which command terms stand for a packet the Tile Link can carry (Table 11-2, R193). -/

namespace Sys2Proof

/-- A TILE payload has 1,280 sample bytes; a DIRECTIVE payload of at most 1,536 bytes has at most 1,534
argument bytes behind its code and tag (Table 11-2). Every other command is well formed as it stands. -/
def Instr.wellFormed : Instr → Bool
  | .tilePacket _ _ bytes => bytes.length == 1280
  | .directivePacket _ _ _ args => decide (args.length ≤ 1534)
  | .resetLine _ | .headerFailure | .badPacket _ | .openPacket .. | .closePacket .. | .fillPacket
  | .refPulse | .refLost | .trigEdge _ | .creditPulse _ | .laneStall _ | .lanePacketSent _
  | .arbiterChoice | .handOver | .codeTile | .passByEntry | .passByRow
  | .loadProfile | .loadLadder | .setRing | .setLanes | .setLaneBFeed | .setTrigger | .setTimecode
  | .jam | .arm | .disarm | .start | .stop | .mark | .query | .readTake | .clearTakes | .restart
  | .reset | .unknownDirective => true

end Sys2Proof
end

