-- ==== Sys2Proof/Safety.lean ====
section
/-! DEFINITION. What counts as a safe state, in the terms that claims use: the DRAM in its canonical form, the rings
inside the store and apart, every queue and count within its bound, and every held label valid. -/

namespace Sys2Proof.Machine

/-! ## The DRAM and the rings -/

/-- A ring that is set has at least one page and ends inside the store (R13). -/
def Ring.inStore (r : Ring) : Prop := 1 ≤ r.pages ∧ r.base + r.pages ≤ 65536

/-- Every ring that is set lies inside the store, and the two share no page (R13). -/
def State.ringsApart (s : State) : Prop :=
  (∀ r, s.prs.f.ring = some r → r.inStore) ∧
  (∀ r, s.prs.p.ring = some r → r.inStore) ∧
  (∀ a b, s.prs.f.ring = some a → s.prs.p.ring = some b → a.disjoint b = true)

/-- A byte address lies in a ring. -/
def Ring.covers (r : Ring) (a : Nat) : Prop := r.base * pageBytes ≤ a ∧ a < (r.base + r.pages) * pageBytes

/-- A byte address lies in a ring that is set. -/
def State.inSomeRing (s : State) (a : Nat) : Prop :=
  (∃ r, s.prs.f.ring = some r ∧ r.covers a) ∨ (∃ r, s.prs.p.ring = some r ∧ r.covers a)

/-! ## Queues and counts -/

/-- The queues the spec bounds: the Tile FIFO, with two slots kept for closing an OPEN picture (R30), the Picture
Table (R25), the Directive FIFO (R176), the reply-wait lists (R183), the report queues (R185). -/
def State.queuesBounded (s : State) : Prop :=
  s.ti.fifo.length ≤ 256 ∧ (s.ti.status = .opened → s.ti.fifo.length ≤ 254) ∧ s.ti.table.length ≤ 8 ∧
  s.du.fifo.length ≤ 8 ∧ s.du.waitF.length ≤ 8 ∧ s.du.waitP.length ≤ 8 ∧
  s.lsA.queue.length ≤ 32 ∧ s.lsB.queue.length ≤ 8

/-- The counts of a lane sender that stop at 65,535 (R163, R168, R171, R185); a stall that has reached 32 opens has
been reported (R171, log 2). -/
def LaneSender.countsBounded (x : LaneSender) : Prop :=
  x.credit ≤ 65535 ∧ x.stall ≤ 65535 ∧ x.lost ≤ 65535 ∧ x.dropPending ≤ 65535 ∧ (x.stallLatch = false → x.stall < 32)

/-- The counts the spec bounds: consecutive header failures (R20), share count (R60), SC-P's gap count (Table 4-1),
opens since the pulse and since the loss, and below 8 while REF is PRESENT (R123, log 2), Pmax (R135), next take
number (R138), and those of the lanes. -/
def State.countsBounded (s : State) : Prop :=
  s.ti.fails ≤ 2 ∧ s.tc.share ≤ 16 ∧ s.scP.gap ≤ 65535 ∧ s.tcu.opensSincePulse ≤ 8 ∧
  (s.tcu.refPresent = true → s.tcu.opensSincePulse < 8) ∧
  s.tcu.opensSinceLoss ≤ 65535 ∧ s.tkc.pmax ≤ 1024 ∧ 1 ≤ s.tkc.nextTake ∧ s.tkc.nextTake ≤ 65535 ∧
  s.lsA.countsBounded ∧ s.lsB.countsBounded

/-! ## Labels -/

/-- A base the part can hold, and drop mode only at base 30 or 60 (R120). -/
def Tcu.settingsValid (t : Tcu) : Prop := validBase t.base = true ∧ (t.drop = true → t.base = 30 ∨ t.base = 60)

/-- Every label the TCU holds is valid for the held base and drop setting: both counters, a pending jam, the last
open's and the trigger capture record's (R118). -/
def Tcu.labelsValid (t : Tcu) : Prop :=
  t.settingsValid ∧ t.freeRun.valid t.base t.drop = true ∧ t.recordRun.valid t.base t.drop = true ∧
  (∀ j, t.jam = some j → j.label.valid t.base t.drop = true) ∧
  (∀ o, t.lastOpen = some o → o.label.valid t.base t.drop = true) ∧
  ∀ c, t.capture = some c → c.label.valid t.base t.drop = true

/-! ## Takes -/

/-- The take number before one: before 1 comes 65,535 (R138). -/
def previousTakeNumber (n : Nat) : Nat := if n = 1 then 65535 else n - 1

/-- At most one take is OPEN, and none outside RECORDING (8.2, R138, R149). The OPEN take is the one started last, and
a CLOSING take the one before it, or the one started last when none is OPEN (R138, R149, R150). -/
def State.oneOpenTake (s : State) : Prop :=
  (s.tkc.takes.filter fun t => t.state == .opened).length ≤ 1 ∧
  (s.tkc.ctl ≠ .recording → ∀ t ∈ s.tkc.takes, t.state ≠ .opened) ∧
  1 ≤ s.tkc.nextTake ∧ s.tkc.nextTake ≤ 65535 ∧
  (∀ t ∈ s.tkc.takes, t.state = .opened → t.number = previousTakeNumber s.tkc.nextTake) ∧
  (∀ t ∈ s.tkc.takes, t.state = .closing →
    t.number = if s.tkc.inState .opened = none then previousTakeNumber s.tkc.nextTake
      else previousTakeNumber (previousTakeNumber s.tkc.nextTake))

/-! ## Lane B -/

/-- The source number of an item's unit. -/
def Item.source? : Item → Option Nat
  | .unit _ source => some source
  | .marker _ => none

/-- The units in LS-B's list lie in increasing source number, none above the last one appended (R161). -/
def State.laneBInOrder (s : State) : Prop :=
  (s.lsB.items.filterMap Item.source?).Pairwise (· < ·) ∧
  ∀ x ∈ s.lsB.items.filterMap Item.source?, ∃ n, s.lsB.lastUnit = some n ∧ x ≤ n

/-! ## Commands -/

/-- The TI's link state once a good header has been taken (R19, R20). -/
def Ti.locked (t : Ti) : Ti := { t with link := .locked, fails := 0 }

/-- The head of the Directive FIFO is a directive of kind `k` that passes the DU's own checks (R178). -/
def State.accepts (s : State) (k : DirKind) (d : Directive) (rest : List Directive) : Prop :=
  s.du.fifo = d :: rest ∧ d.code = k.code ∧ k.check d = none

/-- The command that executes a directive of a kind. -/
def DirKind.command : DirKind → Instr
  | .loadProfile => .loadProfile | .loadLadder => .loadLadder | .setRing => .setRing | .setLanes => .setLanes
  | .setLaneBFeed => .setLaneBFeed | .setTrigger => .setTrigger | .setTimecode => .setTimecode | .jam => .jam
  | .arm => .arm | .disarm => .disarm | .start => .start | .stop => .stop | .mark => .mark | .query => .query
  | .readTake => .readTake | .clearTakes => .clearTakes | .restart => .restart | .reset => .reset

end Sys2Proof.Machine
end

