-- ==== Sys2Proof/Certificates/Slice0/Obligations.lean ====
section
/-! DEFINITION. The statements for the provers, one Prop each; OBLIGATIONS.json lists them. A full equality
`exec c s = .next { s with … }` says the result and the frame at once: every field it does not name is unchanged. -/

open Sys2Proof Sys2Proof.Machine

/-! ## The step -/

/-- Whatever the command and the state, a step with the command at the front of the queue is the command's meaning
on the state with the queue's rest; with an empty queue the part idles (the model's choice, log 3). -/
def Obligations.StepRunsTheFrontCommand : Prop :=
  (∀ (c : Instr) (rest : List Instr) (s : State), s.pending = c :: rest →
      step s = exec c { s with pending := rest }) ∧
  (∀ s : State, s.pending = [] → step s = .next s)

/-- Every command answers a next state from every state, and takes no command from the queue's rest. That a command
whose event the state does not enable answers next too, with nothing changed, is the model's choice (log 1), and so is
that RESET_LINE keeps the queued commands (log 6). -/
def Obligations.EveryCommandCompletes : Prop :=
  ∀ (c : Instr) (s : State), ∃ t, exec c s = .next t ∧ t.pending = s.pending

/-! ## Reset line -/

/-- The reset line leaves each lane sender as R173 lists. -/
def Obligations.ResetLineStopsBothLanes : Prop :=
  ∀ (trigHigh : Bool) (s : State), ∃ t, exec (.resetLine trigHigh) s = .next t ∧
    ∀ l : LaneId, (t.lane l).items = [] ∧ (t.lane l).inProgress = none ∧ (t.lane l).unannounced = none ∧
      (t.lane l).tx = none ∧ (t.lane l).credit = 0 ∧ (t.lane l).stall = 0 ∧ (t.lane l).stallLatch = false ∧
      (t.lane l).waiting = false ∧ (t.lane l).queue = [] ∧ (t.lane l).lost = 0 ∧ (t.lane l).dropPending = 0 ∧
      (t.lane l).counters = {}

/-- The reset line leaves the other blocks at their reset values, takes TRIG's level from the line, and leaves the
DRAM and the queue of commands as they were (the model's choice, log 6). The values R17, R39, R55, R76, R116, R132,
R158 and R191 give; a rung of 0 with no profile held is the model's (log 5). -/
def Obligations.ResetLineEmptiesTheBlocks : Prop :=
  ∀ (trigHigh : Bool) (s : State), ∃ t, exec (.resetLine trigHigh) s = .next t ∧
    (t.ti.link = .hunt ∧ t.ti.fails = 0 ∧ t.ti.fifo = [] ∧ t.ti.table = [] ∧ t.ti.nextSource = 0 ∧
      t.ti.status = .idle ∧ t.ti.geometryLatch = false ∧ t.ti.capacityLatch = false ∧ t.ti.counters = {}) ∧
    (∀ st : Stream, (t.tables st).profile = none ∧ (t.tables st).pendingProfile = none ∧
      (t.tables st).ladder = none ∧ (t.tables st).pendingLadder = none ∧ (t.tables st).ring = none) ∧
    (t.prs.lanes = ⟨true, true, .off, .p, 4⟩ ∧ t.prs.trigger = .off) ∧
    (t.ps.adopted = none ∧ t.ps.phase = 0 ∧ t.ps.mode = .idle ∧ t.ps.scaled = none ∧ t.ps.band = {} ∧
      t.ps.slot1 = none ∧ t.ps.slot2 = none ∧ t.ps.counters = {}) ∧
    (t.tc.loaded = none ∧ t.tc.share = 0 ∧ t.tc.turn = none ∧ t.tc.counters = {}) ∧
    (∀ st : Stream, (t.ws st).state = .inactive ∧ (t.ws st).picture = none ∧ (t.ws st).debt = 0 ∧
      (t.ws st).q = 0 ∧ (t.ws st).coded = 0 ∧ (t.ws st).flatLatch = false ∧ (t.ws st).flats = 0 ∧
      (t.ws st).raws = 0 ∧ (t.ws st).conceals = 0 ∧ (t.ws st).saturations = 0 ∧ (t.ws st).unitPos = none ∧
      (t.ctx st).gap = 0 ∧ (t.ctx st).restart = false ∧ (t.ctx st).abandon = none ∧ (t.ctx st).activate = false ∧
      (t.ctx st).counters = {}) ∧
    (∀ st : Stream, (t.ringState st).head = 0 ∧ (t.ringState st).tail = 0 ∧ (t.ringState st).allocated = 0 ∧
      (t.ringState st).reservation = none ∧ (t.ringState st).dir = [] ∧ (t.ringState st).spillLatch = false ∧
      (t.ringState st).counters = {}) ∧
    (t.fsc.newest = none ∧ t.fsc.lastFault = none ∧ t.fsc.corrected = 0 ∧ t.fsc.uncorrectable = 0) ∧
    (t.tcu.base = 25 ∧ t.tcu.drop = false ∧ t.tcu.mode = .freeRun ∧ t.tcu.freeRun = ⟨0, 0, 0, 0⟩ ∧
      t.tcu.recordRun = ⟨0, 0, 0, 0⟩ ∧ t.tcu.labelTaken = false ∧ t.tcu.lastOpen = none ∧ t.tcu.refPresent = true ∧
      t.tcu.opensSincePulse = 0 ∧ t.tcu.opensSinceLoss = 0 ∧ t.tcu.jam = none ∧ t.tcu.alignAwaiting = false ∧
      t.tcu.trigHigh = trigHigh ∧ t.tcu.capture = none ∧ t.tcu.counters = {}) ∧
    (t.tkc.ctl = .idle ∧ t.tkc.armed = false ∧ t.tkc.pmax = 0 ∧ t.tkc.lastOpen = none ∧ t.tkc.lastEnd = none ∧
      t.tkc.fCut = none ∧ t.tkc.nextTake = 1 ∧ t.tkc.takes = [] ∧ t.tkc.holdA = [] ∧ t.tkc.holdB = [] ∧
      t.tkc.waiting = [] ∧ t.tkc.counters = {}) ∧
    (t.du.fifo = [] ∧ t.du.waitF = [] ∧ t.du.waitP = [] ∧ t.du.counters = {}) ∧
    (t.dram = s.dram ∧ t.pending = s.pending)

/-! ## Invariants -/

/-- The state after reset meets every invariant stated below. -/
def Obligations.InvariantsHoldAtReset : Prop :=
  Mem.wf State.reset.dram = true ∧ State.reset.ringsApart ∧ State.reset.queuesBounded ∧
    State.reset.countsBounded ∧ State.reset.tcu.labelsValid ∧ State.reset.oneOpenTake

/-- The DRAM listing stays canonical at every step. -/
def Obligations.DramStaysCanonical : Prop :=
  ∀ s t : State, Mem.wf s.dram = true → step s = .next t → Mem.wf t.dram = true

/-- CODE_TILE alone writes the DRAM (R102, R104), and no step changes a byte outside the rings that are set. That
RESET_LINE keeps the DRAM is the model's choice (log 6). -/
def Obligations.OnlyCodeTileWritesTheDramAndOnlyInRings : Prop :=
  (∀ (s t : State) (a : Nat), Mem.wf s.dram = true → s.ringsApart → step s = .next t → ¬ s.inSomeRing a →
      Mem.read t.dram a = Mem.read s.dram a) ∧
  (∀ (c : Instr) (s t : State), c ≠ .codeTile → exec c s = .next t → t.dram = s.dram)

/-- Every ring that is set stays inside the store and apart from the other. -/
def Obligations.RingsStayInTheStoreAndApart : Prop :=
  ∀ s t : State, s.ringsApart → step s = .next t → t.ringsApart

/-- No step takes one of these over its bound: the Tile FIFO, with two slots kept while a picture is OPEN, the Picture
Table, the Directive FIFO, both reply-wait lists, both report queues; the header failures, the share count, SC-P's gap
count, the opens since the pulse and since the loss, Pmax, the next take number, and each lane's credit, stall, lost
and drop counts. A PRESENT REF has fewer than 8 opens since its pulse and an unreported stall fewer than 32, for the
open that brings about the loss or the stall takes it (R123, R171). The Take Table, the marks, the directories, the
send lists and the 32-bit counters are not in it. -/
def Obligations.QueuesAndCountsStayBounded : Prop :=
  (∀ s t : State, s.queuesBounded → step s = .next t → t.queuesBounded) ∧
  (∀ s t : State, s.countsBounded → step s = .next t → t.countsBounded)

/-- The labels the Timecode Unit holds stay valid for its base and drop setting at every step: both counters, a pending
jam, the last open's label and the trigger capture record's (R118). -/
def Obligations.LabelsStayValid : Prop :=
  ∀ s t : State, s.tcu.labelsValid → step s = .next t → t.tcu.labelsValid

/-- At every step: at most one take is OPEN, and only while the controller is RECORDING (8.2, R138, R149); the OPEN
take bears the number given last, and a CLOSING take the one before it, or the one given last when no take is OPEN
(R138, R149, R150). -/
def Obligations.OneTakeIsOpenOnlyWhileRecording : Prop :=
  ∀ s t : State, s.oneOpenTake → step s = .next t → t.oneOpenTake

/-! ## The Tile Link's bytes -/

/-- The bytes of a packet of each kind, whatever the fields the TI does not read hold, give its command in every
link mode, and the link is then LOCKED with no failure (R19 to R22, R192, R193). That Link.scan stands for the part's
reading of the Tile Link's bytes, outside the step, is DEDUCED (log 10). -/
def Obligations.PacketBytesGiveTheirCommand : Prop :=
  ∀ (c : Instr) (flags cls : Byte) (spare : BitVec 24) (seq : BitVec 16) (filler bytes rest : List Byte)
    (mode : LinkMode) (fails k : Nat),
    c.wellFormed = true → filler.length ≤ 1536 → commandPacket c flags spare cls seq filler = some bytes →
    (∀ a b w h, c = .openPacket a b w h → a = b) →
    (∀ x code tag args, c = .directivePacket x code tag args → (classOf x.toNat).isSome = true) →
    Link.scan (k + 1) mode fails (bytes ++ rest) = c :: Link.scan k .expect 0 rest

/-- The 1,024 samples of a TILE and its 1,280 bytes stand for each other, both ways (R193, R70). -/
def Obligations.SampleBytesRoundTrip : Prop :=
  (∀ x : List Sample, x.length % 4 = 0 → unpackSamples (packSamples x) = x) ∧
  (∀ b : List Byte, b.length % 5 = 0 → packSamples (unpackSamples b) = b) ∧
  (∀ b : List Byte, b.length = 1280 → (unpackSamples b).length = 1024)

/-! ## Tile Intake -/

/-- A header failure in LOCKED is counted, and the third in a row loses the lock; in HUNT nothing changes (R19, R20).
A discarded packet and a FILL lock the link and change nothing else but the counter of their cause (R20 to R22). -/
def Obligations.LinkFailuresAndDiscardsOnlyCount : Prop :=
  (∀ s : State,
      (s.ti.link = .hunt → exec .headerFailure s = .next s) ∧
      (s.ti.link = .locked → s.ti.fails < 2 → exec .headerFailure s = .next { s with ti := { s.ti with
        fails := s.ti.fails + 1
        counters := { s.ti.counters with headerFailures := bump s.ti.counters.headerFailures } } }) ∧
      (s.ti.link = .locked → 2 ≤ s.ti.fails → exec .headerFailure s = .next { s with ti := { s.ti with
        link := .hunt
        fails := 0
        counters := { s.ti.counters with
          headerFailures := bump s.ti.counters.headerFailures
          lockLosses := bump s.ti.counters.lockLosses } } })) ∧
  (∀ s : State,
      exec .fillPacket s = .next { s with ti := s.ti.locked } ∧
      exec (.badPacket .crc) s = .next { s with ti := { s.ti.locked with
        counters := { s.ti.counters with crcFailures := bump s.ti.counters.crcFailures } } } ∧
      exec (.badPacket .format) s = .next { s with ti := { s.ti.locked with
        counters := { s.ti.counters with formatErrors := bump s.ti.counters.formatErrors } } })

/-- A DIRECTIVE packet that finds room is appended with its class; one whose class byte names no class is a format
error (R22, R176). One that arrives while the Directive FIFO holds 8 is lost: counted, with one DIRECTIVE LOST notice
on Lane A whatever its class, and the entries held unchanged (R177). -/
def Obligations.DirectivePacketIsAppendedOrLost : Prop :=
  (∀ (x code tag : Byte) (args : List Byte) (s : State),
      (∀ cls, classOf x.toNat = some cls → s.du.fifo.length < 8 →
        exec (.directivePacket x code tag args) s = .next { s with
          ti := s.ti.locked
          du := { s.du with fifo := s.du.fifo ++ [⟨cls, code, tag, args⟩] } }) ∧
      (classOf x.toNat = none → exec (.directivePacket x code tag args) s = exec (.badPacket .format) s)) ∧
  (∀ (x code tag : Byte) (args : List Byte) (cls : SourceClass) (s : State),
      classOf x.toNat = some cls → 8 ≤ s.du.fifo.length →
      exec (.directivePacket x code tag args) s = .next { s with
        ti := s.ti.locked
        du := { s.du with counters := { s.du.counters with lost := bump s.du.counters.lost } }
        lsA := s.lsA.enqueue 32 (.notice (.directiveLost code tag cls)) })

/-- Stale and duplicate picture packets and unmatched CLOSEs are discarded with their counters (R23); an OPEN whose two
link sequences differ is a format error (R193, R21). -/
def Obligations.UnwantedPicturePacketsOnlyCount : Prop :=
  ∀ (s : State) (q w h count position : BitVec 16) (bytes : List Byte),
    bytes.length = 1280 →
    (s.ti.status ≠ .idle → q = s.ti.linkSeq →
      exec (.openPacket q q w h) s = .next { s with ti := { s.ti.locked with
        counters := { s.ti.counters with duplicateOpens := bump s.ti.counters.duplicateOpens } } }) ∧
    (s.ti.status ≠ .idle → q = s.ti.linkSeq - 1 →
      exec (.openPacket q q w h) s = .next { s with ti := { s.ti.locked with
        counters := { s.ti.counters with stale := bump s.ti.counters.stale } } } ∧
      exec (.tilePacket q position bytes) s = .next { s with ti := { s.ti.locked with
        counters := { s.ti.counters with stale := bump s.ti.counters.stale } } }) ∧
    (s.ti.status = .idle ∨ q ≠ s.ti.linkSeq →
      exec (.closePacket q count) s = .next { s with ti := { s.ti.locked with
        counters := { s.ti.counters with unmatchedCloses := bump s.ti.counters.unmatchedCloses } } }) ∧
    (∀ c : BitVec 16, c ≠ q →
      exec (.openPacket q c w h) s = .next { s with ti := { s.ti.locked with
        counters := { s.ti.counters with formatErrors := bump s.ti.counters.formatErrors } } })

/-- A packet of a new picture gives it the next source number, kept or dropped; the checks of Table 2-3 in order decide
which, and a drop advances its reason's counter alone (R23, R24, R25). `v` is the state once the good header has been
taken and an OPEN current picture truncated (R19, R24 step 1, R36); with none OPEN truncation does nothing. A TILE opens the picture with the size of
the effective profile, and its record carries OPEN_LOST (R35); the TILE is then one of the new picture: placed behind
a RUN over the positions before it, lost for want of room, a format error, or one of a dropped picture (R32 to R34). -/
def Obligations.PicturesAreKeptOrDroppedInOrder : Prop :=
  (∀ s : State, s.ti.status ≠ .opened → s.truncate = s) ∧
  (∀ (s v : State) (q w h : BitVec 16),
      v = State.truncate { s with ti := s.ti.locked } →
      (s.ti.status = .idle ∨ (q ≠ s.ti.linkSeq ∧ q ≠ s.ti.linkSeq - 1)) →
      ∃ t, exec (.openPacket q q w h) s = .next t ∧ t.ti.nextSource = s.ti.nextSource + 1 ∧
        t.ti.source = s.ti.nextSource ∧ t.ti.linkSeq = q ∧
        match s.prs.f.validAt s.ti.nextSource with
        | none => t.ti.status = .dropping ∧ t.ti.fifo = v.ti.fifo ∧ t.ti.counters = { v.ti.counters with
            dropNoProfile := bump v.ti.counters.dropNoProfile }
        | some p =>
          if w.toNat ≠ p.width ∨ h.toNat ≠ p.height then
            t.ti.status = .dropping ∧ t.ti.fifo = v.ti.fifo ∧ t.ti.counters = { v.ti.counters with
              dropGeometry := bump v.ti.counters.dropGeometry }
          else if 8 ≤ v.ti.table.length then
            t.ti.status = .dropping ∧ t.ti.fifo = v.ti.fifo ∧ t.ti.counters = { v.ti.counters with
              dropTableFull := bump v.ti.counters.dropTableFull }
          else if 256 < v.ti.fifo.length + 3 then
            t.ti.status = .dropping ∧ t.ti.fifo = v.ti.fifo ∧ t.ti.counters = { v.ti.counters with
              dropFifoFull := bump v.ti.counters.dropFifoFull }
          else
            t.ti.status = .opened ∧ t.ti.counters = v.ti.counters ∧ t.ti.expected = 0 ∧ t.ti.received = 0 ∧
              t.ti.tiles = p.tiles ∧ t.ti.fifo = v.ti.fifo ++ [.openE s.ti.nextSource] ∧
              ∃ r ∈ t.ti.table, r.source = s.ti.nextSource ∧ r.openLost = false ∧ r.frStamp = s.tcu.freeRun ∧
                r.stampRepeat = s.tcu.labelTaken ∧ r.fState = .waiting) ∧
  (∀ (s v : State) (q position : BitVec 16) (bytes : List Byte) (c : TiCounters),
      v = State.truncate { s with ti := { s.ti.locked with
        counters := { s.ti.counters with impliedOpens := bump s.ti.counters.impliedOpens } } } →
      c = v.ti.counters → bytes.length = 1280 →
      (s.ti.status = .idle ∨ (q ≠ s.ti.linkSeq ∧ q ≠ s.ti.linkSeq - 1)) →
      ∃ t, exec (.tilePacket q position bytes) s = .next t ∧ t.ti.nextSource = s.ti.nextSource + 1 ∧
        t.ti.source = s.ti.nextSource ∧ t.ti.linkSeq = q ∧
        match s.prs.f.validAt s.ti.nextSource with
        | none => t.ti.status = .dropping ∧ t.ti.fifo = v.ti.fifo ∧ t.ti.counters = { c with
            dropNoProfile := bump c.dropNoProfile, droppedTiles := bump c.droppedTiles }
        | some p =>
          if 8 ≤ v.ti.table.length then
            t.ti.status = .dropping ∧ t.ti.fifo = v.ti.fifo ∧ t.ti.counters = { c with
              dropTableFull := bump c.dropTableFull, droppedTiles := bump c.droppedTiles }
          else if 256 < v.ti.fifo.length + 3 then
            t.ti.status = .dropping ∧ t.ti.fifo = v.ti.fifo ∧ t.ti.counters = { c with
              dropFifoFull := bump c.dropFifoFull, droppedTiles := bump c.droppedTiles }
          else
            t.ti.tiles = p.tiles ∧
            (∃ r ∈ t.ti.table, r.source = s.ti.nextSource ∧ r.openLost = true ∧ r.frStamp = s.tcu.freeRun ∧
              r.stampRepeat = s.tcu.labelTaken ∧ r.fState = .waiting) ∧
            if p.tiles ≤ position.toNat then
              t.ti.status = .opened ∧ t.ti.fifo = v.ti.fifo ++ [.openE s.ti.nextSource] ∧ t.ti.expected = 0 ∧
                t.ti.received = 0 ∧ t.ti.counters = { c with formatErrors := bump c.formatErrors }
            else if 256 < v.ti.fifo.length + (if position.toNat = 0 then 4 else 5) then
              t.ti.status = .opened ∧ t.ti.fifo = v.ti.fifo ++ [.openE s.ti.nextSource] ∧ t.ti.expected = 0 ∧
                t.ti.received = 1 ∧ t.ti.counters = { c with overrun := bump c.overrun }
            else
              t.ti.expected = position.toNat + 1 ∧ t.ti.received = 1 ∧
              t.ti.counters = { c with
                concealedPositions := if position.toNat = 0 then c.concealedPositions
                  else addSat c.concealedPositions position.toNat } ∧
              t.ti.status = (if position.toNat + 1 = p.tiles then .ended else .opened) ∧
              ∃ last : List FifoEntry,
                t.ti.fifo = v.ti.fifo ++ [.openE s.ti.nextSource] ++
                  (if position.toNat = 0 then [] else [.runE 0 position.toNat]) ++
                  [.tileE position.toNat (unpackSamples bytes)] ++ last ∧
                (position.toNat + 1 ≠ p.tiles → last = []) ∧
                (position.toNat + 1 = p.tiles → ∃ lost cut hidden, last = [.endE s.ti.nextSource lost cut hidden]))

/-- Every picture open, by an OPEN packet or implied by a TILE, also one that truncates the picture before it, reaches
the TCU, the FSC and the TKC with its number and the free-run label, kept or dropped (R24, R29, R124); at the eighth
open since the last pulse a PRESENT REF becomes LOST in the same event (R123). Nothing of it touches the DRAM, the
coder or the Directive FIFO. A lane sender's part is a count while its lane waits, and one LANE STALL at the
thirty-second open (R171). -/
def Obligations.OpenEventReachesItsReceivers : Prop :=
  (∀ (s : State) (q : BitVec 16) (c : Instr),
    (s.ti.status = .idle ∨ (q ≠ s.ti.linkSeq ∧ q ≠ s.ti.linkSeq - 1)) →
    ((∃ w h, c = .openPacket q q w h) ∨ (∃ position bytes, c = .tilePacket q position bytes ∧ bytes.length = 1280)) →
    ∃ t, exec c s = .next t ∧
      t.tcu.lastOpen = some ⟨s.ti.nextSource, s.tcu.freeRun⟩ ∧ t.tcu.labelTaken = true ∧
      t.tcu.freeRun = s.tcu.freeRun ∧ t.tcu.alignAwaiting = false ∧
      t.tcu.opensSincePulse = min (s.tcu.opensSincePulse + 1) 8 ∧
      t.tcu.refPresent = (s.tcu.refPresent && decide (s.tcu.opensSincePulse + 1 < 8)) ∧
      t.tcu.opensSinceLoss = (if s.tcu.refPresent then
          (if s.tcu.opensSincePulse + 1 < 8 then s.tcu.opensSinceLoss else 0)
        else min (s.tcu.opensSinceLoss + 1) 65535) ∧
      t.tcu.counters.refLosses = (if s.tcu.refPresent = true ∧ 8 ≤ s.tcu.opensSincePulse + 1 then
        bump s.tcu.counters.refLosses else s.tcu.counters.refLosses) ∧
      t.tcu.counters.stampRepeats = (if s.tcu.labelTaken then bump s.tcu.counters.stampRepeats
        else s.tcu.counters.stampRepeats) ∧
      t.fsc.newest = some s.ti.nextSource ∧ t.tkc.lastOpen = some s.ti.nextSource ∧
      t.dram = s.dram ∧ t.tc = s.tc ∧ t.du = s.du ∧ t.prs = s.prs ∧ t.scF = s.scF) ∧
  (∀ (s : State) (l : LaneId),
    ((s.lane l).waiting = false → ((s.lane l).stallLatch = true ∨ (s.lane l).stall < 32) → s.countOpen l = s) ∧
    ((s.lane l).waiting = true → ((s.lane l).stallLatch = true ∨ (s.lane l).stall + 1 < 32) →
      s.countOpen l = s.setLane l { s.lane l with stall := min ((s.lane l).stall + 1) 65535 }) ∧
    (∀ st source rest, (s.lane l).waiting = true → (s.lane l).stallLatch = false → (s.lane l).stall = 31 →
      (s.lane l).items = .unit st source :: rest →
      s.countOpen l = State.notify (s.setLane l { s.lane l with
          stall := 32, stallLatch := true
          counters := { (s.lane l).counters with stalls := bump (s.lane l).counters.stalls } })
        (.laneStall l st source (s.lane l).nextIndex 32)))

/-- A truncated picture is closed with a RUN over its missing positions and an END before the next opens (R36). -/
def Obligations.OpenTruncatesTheOpenPicture : Prop :=
  ∀ (s : State) (q w h : BitVec 16),
    s.ti.status = .opened → q ≠ s.ti.linkSeq → q ≠ s.ti.linkSeq - 1 →
    ∃ (t : State) (tail : List FifoEntry), exec (.openPacket q q w h) s = .next t ∧
      t.ti.fifo = s.ti.fifo ++ [.runE s.ti.expected (s.ti.tiles - s.ti.expected)] ++ tail ∧
      t.ti.counters.truncations = bump s.ti.counters.truncations ∧
      t.ti.counters.concealedPositions = addSat s.ti.counters.concealedPositions (s.ti.tiles - s.ti.expected) ∧
      (∀ r, s.record s.ti.source = some r → r.fState.finished = false →
        ∃ more, tail = .endE s.ti.source r.openLost true true :: more)

/-- The TILE at the expected position of an OPEN picture, with room for it, is appended; the last position ends the
picture with its END; a gap in front of it is covered by a RUN; a tile behind the expected position is a duplicate
(R30, R32). A tile for which the Tile FIFO has no room is lost: counted, the expected position unchanged, one OVERRUN
notice a picture (R33). -/
def Obligations.TileInOrderIsAppendedOrLost : Prop :=
  (∀ (s : State) (q position : BitVec 16) (bytes : List Byte) (r : PicRecord),
      bytes.length = 1280 → s.ti.status = .opened → q = s.ti.linkSeq → position.toNat < s.ti.tiles →
      s.record s.ti.source = some r → r.fState.finished = false →
      (position.toNat = s.ti.expected → s.ti.fifo.length + 3 ≤ 256 →
        ∃ t, exec (.tilePacket q position bytes) s = .next t ∧ t.ti.expected = s.ti.expected + 1 ∧
          t.ti.received = s.ti.received + 1 ∧ t.ti.counters = s.ti.counters ∧ t.dram = s.dram ∧ t.tc = s.tc ∧
          t.ti.fifo = s.ti.fifo ++ [.tileE position.toNat (unpackSamples bytes)] ++
            (if position.toNat + 1 = s.ti.tiles then [.endE s.ti.source r.openLost r.truncated r.concealed] else []) ∧
          t.ti.status = (if position.toNat + 1 = s.ti.tiles then .ended else .opened)) ∧
      (s.ti.expected < position.toNat → s.ti.fifo.length + 4 ≤ 256 →
        ∃ t, exec (.tilePacket q position bytes) s = .next t ∧ t.ti.expected = position.toNat + 1 ∧
          t.ti.received = s.ti.received + 1 ∧
          t.ti.counters.concealedPositions =
            addSat s.ti.counters.concealedPositions (position.toNat - s.ti.expected) ∧
          t.ti.fifo = s.ti.fifo ++ [.runE s.ti.expected (position.toNat - s.ti.expected),
            .tileE position.toNat (unpackSamples bytes)] ++
            (if position.toNat + 1 = s.ti.tiles then [.endE s.ti.source r.openLost r.truncated true] else [])) ∧
      (position.toNat < s.ti.expected →
        exec (.tilePacket q position bytes) s = .next { s with ti := { s.ti.locked with
          received := s.ti.received + 1
          counters := { s.ti.counters with duplicateTiles := bump s.ti.counters.duplicateTiles } } })) ∧
  (∀ (s : State) (q position : BitVec 16) (bytes : List Byte),
      bytes.length = 1280 → s.ti.status = .opened → q = s.ti.linkSeq → position.toNat < s.ti.tiles →
      s.ti.expected ≤ position.toNat →
      256 < s.ti.fifo.length + (if position.toNat = s.ti.expected then 3 else 4) →
      exec (.tilePacket q position bytes) s = .next { s with
        ti := { s.ti.locked with
          received := s.ti.received + 1
          overrunNoted := true
          counters := { s.ti.counters with overrun := bump s.ti.counters.overrun } }
        lsA := if s.ti.overrunNoted then s.lsA else s.lsA.enqueue 32 (.notice (.overrun s.ti.source)) })

/-- Tiles of a picture that is ENDED or DROPPING are discarded with the counter R34 names. -/
def Obligations.LateAndDroppedTilesOnlyCount : Prop :=
  ∀ (s : State) (q position : BitVec 16) (bytes : List Byte), bytes.length = 1280 → q = s.ti.linkSeq →
    (s.ti.status = .ended → position.toNat < s.ti.tiles →
      exec (.tilePacket q position bytes) s = .next { s with ti := { s.ti.locked with
        received := s.ti.received + 1
        counters := { s.ti.counters with duplicateTiles := bump s.ti.counters.duplicateTiles } } }) ∧
    (s.ti.status = .ended → s.ti.tiles ≤ position.toNat →
      exec (.tilePacket q position bytes) s = .next { s with ti := { s.ti.locked with
        counters := { s.ti.counters with formatErrors := bump s.ti.counters.formatErrors } } }) ∧
    (s.ti.status = .dropping →
      exec (.tilePacket q position bytes) s = .next { s with ti := { s.ti.locked with
        counters := { s.ti.counters with droppedTiles := bump s.ti.counters.droppedTiles } } })

/-- A CLOSE of the current picture changes the mismatch counter and the record's CONCEALED flag when its count
differs, and nothing else (R37). -/
def Obligations.CloseComparesTheTileCount : Prop :=
  ∀ (s : State) (q count : BitVec 16), q = s.ti.linkSeq →
    ((s.ti.status = .opened ∨ s.ti.status = .ended) → count.toNat = s.ti.received →
      exec (.closePacket q count) s = .next { s with ti := s.ti.locked }) ∧
    ((s.ti.status = .opened ∨ s.ti.status = .ended) → count.toNat ≠ s.ti.received →
      exec (.closePacket q count) s = .next { s with ti := { s.ti.locked with
        table := s.ti.table.map fun r => if r.source = s.ti.source then { r with concealed := true } else r
        counters := { s.ti.counters with closeMismatches := bump s.ti.counters.closeMismatches } } }) ∧
    (s.ti.status = .dropping → exec (.closePacket q count) s = .next { s with ti := s.ti.locked })

/-! ## Proxy Scaler -/

/-- The selection test of a picture open: the phase counter, the gap count of a selected picture that is dropped,
and the counters (R41, R42). `p` is the PS once it has adopted the effective record and taken an align request. -/
def Obligations.SelectionTestFollowsThePhase : Prop :=
  ∀ (s : State) (source : Nat) (kept align : Bool) (p : Ps),
    p = (s.ps.adopt (s.prs.p.profileAt source)).align align →
    (p.validAdopted = none → (s.psOpen source kept align).ps.phase = 0 ∧
      (s.psOpen source kept align).ps.mode = .idle ∧ (s.psOpen source kept align).scP = s.scP) ∧
    (∀ r, p.validAdopted = some r →
      (s.psOpen source kept align).ps.phase = (p.phase + 1) % r.decimation ∧
      (p.phase = 0 → kept = true → (s.psOpen source kept align).ps.mode = .scaling ∧
        (s.psOpen source kept align).ps.scaled = some ⟨source, r⟩ ∧ (s.psOpen source kept align).ps.row = 0 ∧
        (s.psOpen source kept align).ps.counters.selected = bump s.ps.counters.selected) ∧
      (p.phase = 0 → kept = false → (s.psOpen source kept align).ps.mode = .idle ∧
        (s.psOpen source kept align).scP = { s.scP with gap := add16 s.scP.gap 1 } ∧
        (s.psOpen source kept align).ps.counters.selectedDrops = bump s.ps.counters.selectedDrops) ∧
      (p.phase ≠ 0 → (s.psOpen source kept align).ps.mode = .idle ∧ (s.psOpen source kept align).scP = s.scP))

/-- A completed proxy row is placed in a free slot, slot 1 when both are free, in the order of completion; with no
free slot the picture is abandoned; a P turn takes the older held row (R49). -/
def Obligations.CompletedRowTakesAFreeSlot : Prop :=
  ∀ (p : Ps) (r : ProxyRow),
    (p.slot1 = none → p.slot2 = none → ∃ x, p.place r = some x ∧ x.slot1 = some r ∧ x.slot2 = none ∧
      x.older = some (.one, r)) ∧
    (∀ old, p.slot1 = none → p.slot2 = some old → ∃ x, p.place r = some x ∧ x.slot1 = some r ∧
      x.slot2 = some old ∧ x.older = some (.two, old)) ∧
    (∀ old, p.slot1 = some old → p.slot2 = none → ∃ x, p.place r = some x ∧ x.slot1 = some old ∧
      x.slot2 = some r ∧ x.older = some (.one, old)) ∧
    (∀ (s : State) (c : Scaled), p = s.ps → p.slot1.isSome = true → p.slot2.isSome = true →
      p.place r = none ∧ s.rowComplete c = s.abandon c.source s.ps.row) ∧
    (∀ s : State, p = s.ps → (s.newTurn .p).slot = p.older.map Prod.fst)

/-- A proxy sample is its block's sum over k squared, rounded half up: within half a step of the exact mean (R44). -/
def Obligations.BoxValueIsTheRoundedMean : Prop :=
  ∀ k sum : Nat, 1 ≤ k →
    2 * sum < (2 * boxValue k sum + 1) * (k * k) ∧ 2 * boxValue k sum * (k * k) ≤ 2 * sum + k * k ∧
    (sum ≤ 1023 * (k * k) → boxValue k sum ≤ 1023)

/-! ## Arbiter, hand-over, coding -/

/-- The arbiter's choice: by Table R59 among the ready streams, with the share count moved; no choice while a turn is
in progress or no stream is ready. A stream that is not loaded begins with a hand-over (R59 to R62). A choice with no
choice to make changes nothing (the model's choice, log 1); the hand-over is counted at the choice (DEDUCED, log 20);
with no P profile effective for the older row the test of N fails (DEDUCED, log 33). Turns of a loaded SC-P, and of a
loaded SC-F that is not CODING or has a request, are not covered here. -/
def Obligations.ArbiterChoosesByTheTable : Prop :=
  ∀ s : State,
    ((s.tc.turn.isSome = true ∨ (s.readyF = false ∧ s.readyP = false)) → exec .arbiterChoice s = .next s) ∧
    (s.tc.turn = none → s.readyF = true →
      (s.readyP = false ∨ 192 ≤ s.ti.fifo.length ∨
        ((s.ps.slot1 = none ∨ s.ps.slot2 = none) ∧ ∀ n, s.shareLimit = some n → s.tc.share < n)) →
      s.tc.loaded ≠ some .f →
      exec .arbiterChoice s = .next { s with tc := { s.tc with
        turn := some { stream := .f, handingOver := true, restart := s.scF.restart, abandon := s.scF.abandon,
                       activate := s.scF.activate }
        share := min (s.tc.share + 1) 16
        counters := { s.tc.counters with
          handOvers := bump s.tc.counters.handOvers, fTurns := bump s.tc.counters.fTurns } } }) ∧
    (s.tc.turn = none → s.readyP = true →
      (s.readyF = false ∨ (s.ti.fifo.length < 192 ∧
        ((s.ps.slot1.isSome = true ∧ s.ps.slot2.isSome = true) ∨ ∃ n, s.shareLimit = some n ∧ n ≤ s.tc.share))) →
      s.tc.loaded ≠ some .p →
      exec .arbiterChoice s = .next { s with tc := { s.tc with
        turn := some { stream := .p, handingOver := true, restart := s.scP.restart, abandon := s.scP.abandon,
                       activate := s.scP.activate, slot := s.ps.older.map Prod.fst }
        share := 0
        counters := { s.tc.counters with
          handOvers := bump s.tc.counters.handOvers, pTurns := bump s.tc.counters.pTurns } } }) ∧
    (s.tc.turn = none → s.readyF = true → s.readyP = false → s.tc.loaded = some .f → s.tc.ws.state = .coding →
      s.scF.restart = false → s.scF.abandon = none →
      exec .arbiterChoice s = .next { s with tc := { s.tc with
        turn := some { stream := .f, activate := s.scF.activate }
        share := min (s.tc.share + 1) 16
        counters := { s.tc.counters with fTurns := bump s.tc.counters.fTurns } } })

/-- A hand-over saves the working set of the context that was loaded and loads the other's, and the turn goes on
from there; the pending set and the gap count of neither record are written (R61). -/
def Obligations.HandOverSwapsTheWorkingSets : Prop :=
  ∀ (s : State) (t : Turn), s.tc.turn = some t → t.handingOver = true →
    (s.tc.loaded = none →
      exec .handOver s = .next (State.startTurn { s with tc := { s.tc with
        loaded := some t.stream, ws := (s.ctx t.stream).ws, turn := some { t with handingOver := false } } }
        { t with handingOver := false })) ∧
    (s.tc.loaded = some .f → t.stream = .p →
      exec .handOver s = .next (State.startTurn { s with
        scF := { s.scF with ws := s.tc.ws }
        tc := { s.tc with loaded := some .p, ws := s.scP.ws, turn := some { t with handingOver := false } } }
        { t with handingOver := false })) ∧
    (s.tc.loaded = some .p → t.stream = .f →
      exec .handOver s = .next (State.startTurn { s with
        scP := { s.scP with ws := s.tc.ws }
        tc := { s.tc with loaded := some .f, ws := s.scF.ws, turn := some { t with handingOver := false } } }
        { t with handingOver := false }))

/-- CODE_TILE codes one position of the row of the turn in progress, for either stream: the head TILE or one position
of the head RUN of stream F, or the next tile of the row a P turn took (R69, R70). Kind, bytes and working set are
those of the ceiling test, the tile layout and the counts (R70, R87 to R89, Table 11-8); nothing else changes but the
model's counter for free values. At the last position of a row the row goes to the FSC, the rung is selected, the turn
ends, and a P turn's slot becomes free (R50, R69, R102); at the last row the debt is updated, END leaves or the gap
count is taken, and the unit is completed (R72, R84, R92, R93). The rung moves only outside the dead band, by the
stride, and is clamped into qlo to qhi; the clamp is counted (R80 to R82). The debt is D + A - T, clamped into -T to
+T; the clamp is counted (R84). -/
def Obligations.PositionIsCodedAndRowEndMovesTheRung : Prop :=
  (∀ (s : State) (t : Turn) (p : ProfileRec) (x : Option (List Sample)) (fifo : List FifoEntry) (k : TileKind)
      (bytes : List Byte) (w : WorkingSet) (v r : State) (ps : Ps),
    s.tc.turn = some t → t.handingOver = false → s.tc.loaded = some t.stream → s.tc.ws.state = .coding →
    (s.tables t.stream).profile = some p →
    ((t.stream = .f ∧ ∃ pos y rest, s.ti.fifo = .tileE pos y :: rest ∧ x = some y ∧ fifo = rest) ∨
      (t.stream = .f ∧ ∃ first count rest, s.ti.fifo = .runE first count :: rest ∧ 1 ≤ count ∧ x = none ∧
        fifo = if count = 1 then rest else .runE (first + 1) (count - 1) :: rest) ∨
      (t.stream = .p ∧ fifo = s.ti.fifo ∧ ∃ i row tile, t.slot = some i ∧ s.ps.slot i = some row ∧
        row.tiles[s.tc.ws.column]? = some tile ∧ x = if tile.concealed then none else some tile.samples)) →
    (∀ y, x = some y → y.length = 1024) →
    k = s.tc.ws.kindOf p ⟨x⟩ (s.rungStep t.stream) →
    bytes = tileBytes k x (s.rungStep t.stream) (s.tc.ws.position p) s.freeTick →
    w = s.tc.ws.afterTile p k bytes.length →
    v = { s with
      ti := { s.ti with fifo := fifo }
      tc := { s.tc with ws := w, turn := some { t with rowBytes := t.rowBytes ++ bytes } }
      freeTick := s.freeTick + 1 } →
    r = v.writeRow t.stream p.rows (t.rowBytes ++ bytes) →
    ps = (match t.slot with
      | some i => s.ps.setSlot i none
      | none => s.ps) →
    bytes.length = tileSize k x (s.rungStep t.stream) ∧ (k = .concealed ↔ x = none) ∧
    (k = .flat ↔ x ≠ none ∧ (s.tc.ws.flatLatch = true ∨
      p.ceiling < s.tc.ws.coded + 1288 + 16 * (p.tiles - s.tc.ws.position p - 1))) ∧
    (k = .compressed → ∃ y, x = some y ∧ compressedPayload y (s.rungStep t.stream) ≤ 1272) ∧
    (k = .raw → ∃ y, x = some y ∧ 1272 < compressedPayload y (s.rungStep t.stream)) ∧
    (s.tc.ws.column + 1 ≠ p.tilesAcross → exec .codeTile s = .next v) ∧
    (s.tc.ws.column + 1 = p.tilesAcross → s.tc.ws.row + 1 ≠ p.rows →
      exec .codeTile s = .next { r with tc := { v.tc with ws := w.afterRow p, turn := none }, ps := ps }) ∧
    (∀ (n : Nat) (e : WorkingSet) (c : CtxCounters → CtxCounters) (z : State),
      s.tc.ws.column + 1 = p.tilesAcross → s.tc.ws.row + 1 = p.rows → s.tc.ws.picture = some n →
      e = w.afterRow p → c = (fun x => x.addPicture e (p.debtClamps (p.rawDebt e.debt e.coded))) →
      z = { r with
        ti := { s.ti with fifo := match t.stream with
          | .f => dropEnd fifo
          | .p => fifo }
        tc := { v.tc with ws := e.ended p }
        scF := match t.stream with
          | .f => { s.scF with counters := c s.scF.counters }
          | .p => s.scF
        scP := match t.stream with
          | .f => s.scP
          | .p => { s.scP with gap := 0, counters := c s.scP.counters }
        lsA := if 1 ≤ e.flats then
            s.lsA.enqueue 32 (.notice (.ceiling t.stream n (e.firstFlat.getD 0) e.flats e.coded p.ceiling))
          else s.lsA } →
      exec .codeTile s = .next { z.completeUnit t.stream
          { source := n, profile := p, coded := e.coded, startRung := e.startRung, endRung := e.q, flats := e.flats
            raws := e.raws, conceals := e.conceals, saturations := e.saturations
            gap := match t.stream with
              | .f => 0
              | .p => s.scP.gap
            record := (s.record n).getD { source := n, frStamp := {} } } with
        tc := { v.tc with ws := e.ended p, turn := none }, ps := ps })) ∧
  (∀ (p : ProfileRec) (w : WorkingSet), w.afterRow p = { w with
      q := (p.selectRung w.row w.coded w.debt w.q).1, row := w.row + 1, column := 0
      saturations := if (p.selectRung w.row w.coded w.debt w.q).2 then w.saturations + 1 else w.saturations }) ∧
  (∀ (p : ProfileRec) (row coded q : Nat) (debt m : Int),
      m = movedRung q (p.strideFor (p.deviation row coded debt).natAbs) (decide (0 < p.deviation row coded debt)) →
      (2 * (p.deviation row coded debt).natAbs < p.rowTarget → p.selectRung row coded debt q = (q, false)) ∧
      (p.rowTarget ≤ 2 * (p.deviation row coded debt).natAbs →
        (m < p.qlo → p.selectRung row coded debt q = (p.qlo, true)) ∧
        (p.qlo ≤ m → (p.qhi : Int) < m → p.selectRung row coded debt q = (p.qhi, true)) ∧
        (p.qlo ≤ m → m ≤ p.qhi → p.selectRung row coded debt q = (m.toNat, false))) ∧
      (p.qlo ≤ q → q ≤ p.qhi →
        p.qlo ≤ (p.selectRung row coded debt q).1 ∧ (p.selectRung row coded debt q).1 ≤ p.qhi)) ∧
  (∀ (p : ProfileRec) (w : WorkingSet) (c : CtxCounters) (d : Int), d = w.debt + w.coded - p.target →
      (d < -(p.target : Int) → (w.ended p).debt = -(p.target : Int)) ∧
      ((p.target : Int) < d → (w.ended p).debt = p.target) ∧
      (-(p.target : Int) ≤ d → d ≤ p.target → (w.ended p).debt = d) ∧
      (c.addPicture w (p.debtClamps (p.rawDebt w.debt w.coded))).debtClamps =
        (if d < -(p.target : Int) ∨ (p.target : Int) < d then bump c.debtClamps else c.debtClamps))

/-- The size of a coded tile: 16 for a flat or concealed one, 1,288 for a raw one, 16 to 1,280 in steps of 8 for a
compressed one; at a coarser step the compressed payload is never larger (R70, R71). The ceiling guard keeps room for
every position still to come: A + 16 n_rem never exceeds C (R87, R88, R90). A concealed position is coded as a
concealed tile of 16 bytes whatever the guard says, and leaves the flat latch and the flat count as they were (R89).
-/
def Obligations.TileSizesAndGuardKeepToTheCeiling : Prop :=
  ((∀ (x : Option (List Sample)) (step : Nat), tileSize .flat x step = 16 ∧ tileSize .concealed x step = 16 ∧
      tileSize .raw x step = 1288) ∧
    (∀ (x : List Sample) (step size : Nat), size = tileSize (tileKind (some x) false true step) (some x) step →
      (tileKind (some x) false true step = .raw ∧ size = 1288) ∨
      (tileKind (some x) false true step = .compressed ∧ 16 ≤ size ∧ size ≤ 1280 ∧ size % 8 = 0)) ∧
    (∀ (x : List Sample) (fine coarse : Nat), fine ≤ coarse → compressedPayload x coarse ≤ compressedPayload x fine)) ∧
  ((∀ (w : WorkingSet) (p : ProfileRec) (x : Piece) (step : Nat), w.position p < p.tiles →
        w.coded + 16 * (p.tiles - w.position p) ≤ p.ceiling →
        (w.afterTile p (w.kindOf p x step) (tileSize (w.kindOf p x step) x.samples step)).coded +
          16 * (p.tiles - w.position p - 1) ≤ p.ceiling) ∧
    (∀ (w : WorkingSet) (p : ProfileRec) (step : Nat),
        w.kindOf p ⟨none⟩ step = .concealed ∧
        w.afterTile p .concealed (tileSize .concealed none step) = { w with
          coded := w.coded + 16, column := w.column + 1, conceals := w.conceals + 1 }))

/-- Outside the dead band the stride is |dev| over t, rounded to the nearest whole number with halves up, at least 1
and capped to M; Table 5-2's figures at t = 7,723 and M = 2 (R81). -/
def Obligations.StrideIsTheRoundedQuotient : Prop :=
  (∀ (p : ProfileRec) (a : Nat), 1 ≤ p.rowTarget → p.rowTarget ≤ 2 * a →
    ∃ m, p.strideFor a = min m p.stride ∧ m = (2 * a + p.rowTarget) / (2 * p.rowTarget) ∧ 1 ≤ m ∧
      (2 * m - 1) * p.rowTarget ≤ 2 * a ∧ 2 * a < (2 * m + 1) * p.rowTarget) ∧
  (∀ (p : ProfileRec) (row coded q : Nat) (debt : Int), 1 ≤ p.rowTarget →
    p.rowTarget ≤ 2 * (p.deviation row coded debt).natAbs →
    (p.selectRung row coded debt q).1 = p.clampRung (movedRung q (p.strideFor (p.deviation row coded debt).natAbs)
      (decide (0 < p.deviation row coded debt)))) ∧
  (∀ p : ProfileRec, p.rowTarget = 7723 → p.stride = 2 →
    2 * 3861 < p.rowTarget ∧ p.strideFor 3862 = 1 ∧ p.strideFor 11584 = 1 ∧ p.strideFor 11585 = 2 ∧
      p.strideFor 30000 = 2)

/-- A picture start asks the FSC for a reservation (R67, R97). A request fits when its granules are free and the
directory holds fewer than 2,048 entries. While it does not, the walk releases units from the tail, each of them not
needed by Lane A, and stops at the first that fits, at a unit Lane A needs, or with none left (R98); a released unit
that Lane B needed leaves Lane B's list, its hold and the set waiting for a master (R111). A request that then fits is
reserved at the head (R97). One that does not is a spill: counted by its reason, with one SPILL notice for a run of
them (R99, R100); for stream F the TKC is told (R101, R153). -/
def Obligations.ReservationMakesRoomOrSpills : Prop :=
  (∀ (s : State) (st : Stream) (size : Nat), (s.fits st size = true ↔
      size ≤ ((s.tables st).ring.map Ring.granules).getD 0 - (s.ringState st).allocated ∧
      (s.ringState st).dir.length < 2048)) ∧
  (∀ (s t : State) (st : Stream) (size : Nat), t = s.walk st size (s.ringState st).dir.length → ∃ n : Nat,
      n ≤ (s.ringState st).dir.length ∧
      (t.ringState st).dir.map DirEntry.source = ((s.ringState st).dir.drop n).map DirEntry.source ∧
      (t.ringState st).allocated =
        (s.ringState st).allocated - (((s.ringState st).dir.take n).map fun e => (e.length + 63) / 64).sum ∧
      (t.ringState st).head = (s.ringState st).head ∧ (t.ringState st).reservation = (s.ringState st).reservation ∧
      (∀ e ∈ (s.ringState st).dir.take n, e.needA = false ∧ (e.needB = true →
        .unit st e.source ∉ t.lsB.items ∧ .unit st e.source ∉ t.tkc.holdB ∧
        (st = .p → ∀ w ∈ t.tkc.waiting, w.source ≠ e.source))) ∧
      (t.fits st size = true ∨ (t.ringState st).dir = [] ∨
        ∃ e, (t.ringState st).dir.head? = some e ∧ e.needA = true) ∧
      (∀ m, m < n → ¬ (size ≤ ((s.tables st).ring.map Ring.granules).getD 0 - ((s.ringState st).allocated -
          (((s.ringState st).dir.take m).map fun e => (e.length + 63) / 64).sum) ∧
        (s.ringState st).dir.length - m < 2048)) ∧
      (n = 0 → t = s) ∧ t.dram = s.dram ∧ t.prs = s.prs ∧ t.tc = s.tc ∧ t.tcu = s.tcu ∧ t.ti.fifo = s.ti.fifo) ∧
  (∀ (s u t : State) (st : Stream) (source : Nat) (p : ProfileRec),
      u = s.walk st (p.reservation / 64) (s.ringState st).dir.length → t = s.reserveAndStart st source p →
      (u.fits st (p.reservation / 64) = true →
        t.ringState st = { u.ringState st with
          reservation := some ⟨(u.ringState st).head, p.reservation / 64⟩, running := 0, rowOffsets := []
          spillLatch := false
          counters := { (u.ringState st).counters with
            reservations := bump (u.ringState st).counters.reservations } } ∧
        t.ws st = { u.ws st with state := .coding, unitPos := some (u.ringState st).head } ∧
        t.tkc = u.tkc ∧ t.lsA = u.lsA ∧ t.lsB = u.lsB ∧ t.ti.fifo = u.ti.fifo ∧
        ∀ r, t.record source = some r → r.stateOf st = some .coding) ∧
      (u.fits st (p.reservation / 64) = false → st = .p →
        (t.ringState .p).reservation = (u.ringState .p).reservation ∧ (t.ringState .p).spillLatch = true ∧
        t.tc.turn = none ∧ (t.ringState .p).allocated = (u.ringState .p).allocated ∧
        ((u.ws .p).row + 1 ≠ p.rows → (t.ws .p).state = .discarding ∧ (t.ws .p).row = (u.ws .p).row + 1 ∧
          (t.ringState .p).dir = (u.ringState .p).dir))) ∧
  (∀ (s : State) (st : Stream) (source size : Nat) (reason : SpillReason),
      reason = (if size ≤ s.freeGranules st then .directory else .space) →
      s.noteSpill st source size = { s.setRingState st { s.ringState st with
          spillLatch := true
          counters := { (s.ringState st).counters with
            spillsSpace := if reason = .space then bump (s.ringState st).counters.spillsSpace
              else (s.ringState st).counters.spillsSpace
            spillsDirectory := if reason = .directory then bump (s.ringState st).counters.spillsDirectory
              else (s.ringState st).counters.spillsDirectory } } with
        lsA := if (s.ringState st).spillLatch then s.lsA
          else s.lsA.enqueue 32 (.notice (.spill st source reason
            (if reason = .space then size - s.freeGranules st else 0)
            ((s.ringState st).dir.head?.map DirEntry.source))) } ∧
      s.spill .p source size = s.noteSpill .p source size ∧
      s.spill .f source size = (s.noteSpill .f source size).cut source .spill)

/-- A passed-by entry leaves the head of the Tile FIFO and nothing else changes; an END also counts a passed picture
(R74). A passed-by proxy row leaves its slot; the last row of a picture adds to the gap count and to the passed
pictures, any other leaves no other trace (R75). -/
def Obligations.PassedByEntriesAndRowsLeave : Prop :=
  (∀ (s : State) (e : FifoEntry) (rest : List FifoEntry), s.ti.fifo = e :: rest →
      ((s.ws .f).state = .ready ∧ (∀ n, e ≠ .openE n) ∨
        (s.ws .f).state = .inactive ∧ (s.scF.activate = false ∨ ∀ n, e ≠ .openE n)) →
      ((∀ n a b c, e ≠ .endE n a b c) → exec .passByEntry s = .next { s with ti := { s.ti with fifo := rest } }) ∧
      (∀ n a b c, e = .endE n a b c → ∃ t, exec .passByEntry s = .next t ∧ t.ti.fifo = rest ∧
        t.scF = { s.scF with counters := { s.scF.counters with passed := bump s.scF.counters.passed } } ∧
        t.scP = s.scP ∧ t.tc = s.tc ∧ t.ps = s.ps ∧ t.prs = s.prs ∧ t.tcu = s.tcu ∧ t.dram = s.dram)) ∧
  (∀ (s : State) (i : SlotId) (r : ProxyRow), s.ps.older = some (i, r) → s.tc.turn = none →
      (((s.ws .p).state = .ready ∧ r.row ≠ 0) ∨ ((s.ws .p).state = .inactive ∧ s.scP.activate = false)) →
      (r.last = false → exec .passByRow s = .next { s with ps := s.ps.setSlot i none }) ∧
      (r.last = true → ∃ t, exec .passByRow s = .next t ∧ t.ps = s.ps.setSlot i none ∧
        t.scP = { s.scP with gap := add16 s.scP.gap 1
                             counters := { s.scP.counters with passed := bump s.scP.counters.passed } } ∧
        t.scF = s.scF ∧ t.tc = s.tc ∧ t.ti.fifo = s.ti.fifo ∧ t.prs = s.prs ∧ t.dram = s.dram))

/-! ## Frame Store -/

/-- A row handed to the FSC is found again at its place in the reservation, wrapped into the ring, every other byte
of the DRAM keeps its value, and the row's offset is recorded (R95, R102). -/
def Obligations.RowIsStoredInItsReservation : Prop :=
  ∀ (s : State) (st : Stream) (rows : Nat) (bytes : List Byte) (v : Reservation) (g : Ring),
    Mem.wf s.dram = true → (s.ringState st).reservation = some v → (s.tables st).ring = some g → g.inStore →
    bytes.length ≤ g.bytes →
    (∀ i, i < bytes.length →
      Mem.read (s.writeRow st rows bytes).dram
        (g.address (v.start * 64 + (64 + 4 * rows + (s.ringState st).running) + i)) = bytes.getD i 0) ∧
    (∀ a, (∀ i, i < bytes.length → g.address (v.start * 64 + (64 + 4 * rows + (s.ringState st).running) + i) ≠ a) →
      Mem.read (s.writeRow st rows bytes).dram a = Mem.read s.dram a) ∧
    ((s.writeRow st rows bytes).ringState st).running = (s.ringState st).running + bytes.length ∧
    ((s.writeRow st rows bytes).ringState st).rowOffsets =
      (s.ringState st).rowOffsets ++ [64 + 4 * rows + (s.ringState st).running]

/-- The completion of a unit: the header and the row offset table stand at the front of the reservation, wrapped into
the ring, with every other byte of the DRAM as it was (R102, R104); the header holds its fields, with the take number,
the stamp and the check 0 (Table 11-7, R196). The shrink moves the head behind the extent, the entry joins the
directory with its flags and needs, STORED is written, the completed unit is counted and the free tail is released
(R105, R106). The needs are those of R144's table; an F unit of a take is handed and the P unit that waited for it
behind it, a P unit of a take whose master is not STORED waits, and a P unit of no take goes to Lane B where its need
says so; a handing is counted in the take, with its stamps and flags (R143, R144). That a P unit waits also where its
master has finished without STORED (log 46), that a waiting unit keeps the lanes it will be handed to (log 17), and that
one without a need is still counted when its master completes (log 47), are the model's choices. -/
def Obligations.CompletedUnitHasItsFrontAndEntry : Prop :=
  (∀ (s : State) (st : Stream) (c : Completion) (start : Nat) (g : Ring),
    Mem.wf s.dram = true → g.inStore → 64 + 4 * (s.ringState st).rowOffsets.length ≤ g.bytes →
    (∀ i, i < 64 →
      Mem.read (s.writeFront st c start g).dram (g.address (start * 64 + i)) = (c.header st).getD i 0) ∧
    (∀ i, i < 4 * (s.ringState st).rowOffsets.length →
      Mem.read (s.writeFront st c start g).dram (g.address (start * 64 + 64 + i)) =
        ((s.ringState st).rowOffsets.flatMap (be 4)).getD i 0) ∧
    (∀ a, (∀ i, i < 64 + 4 * (s.ringState st).rowOffsets.length → g.address (start * 64 + i) ≠ a) →
      Mem.read (s.writeFront st c start g).dram a = Mem.read s.dram a)) ∧
  (∀ (c : Completion) (st : Stream), (c.header st).length = 64 ∧
    fieldAt (c.header st) 0 1 = (match st with | .f => 0 | .p => 1) ∧
    fieldAt (c.header st) 1 1 = (if c.record.openLost then 1 else 0) + (if c.record.truncated then 2 else 0) +
      (if c.record.concealed then 4 else 0) + (if c.record.stampRepeat then 8 else 0) +
      (if 1 ≤ c.flats then 16 else 0) ∧
    (c.source < 281474976710656 → fieldAt (c.header st) 2 6 = c.source) ∧ fieldAt (c.header st) 8 6 = 0 ∧
    (c.profile.width < 65536 → fieldAt (c.header st) 14 2 = c.profile.width) ∧
    (c.profile.height < 65536 → fieldAt (c.header st) 16 2 = c.profile.height) ∧
    (c.profile.tilesAcross < 256 → fieldAt (c.header st) 18 1 = c.profile.tilesAcross) ∧
    (c.profile.padLines < 256 → fieldAt (c.header st) 19 1 = c.profile.padLines) ∧
    (c.profile.rows < 65536 → fieldAt (c.header st) 20 2 = c.profile.rows) ∧
    (c.startRung < 256 → fieldAt (c.header st) 22 1 = c.startRung) ∧
    (c.endRung < 256 → fieldAt (c.header st) 23 1 = c.endRung) ∧
    (c.coded < 4294967296 → fieldAt (c.header st) 24 4 = c.coded) ∧
    (c.flats < 65536 → fieldAt (c.header st) 28 2 = c.flats) ∧
    (c.raws < 65536 → fieldAt (c.header st) 30 2 = c.raws) ∧
    (c.conceals < 65536 → fieldAt (c.header st) 32 2 = c.conceals) ∧
    (c.gap < 65536 → fieldAt (c.header st) 34 2 = c.gap) ∧ fieldAt (c.header st) 36 26 = 0 ∧
    fieldAt (c.header st) 62 2 = 0) ∧
  (∀ (r : RingState) (c : Completion) (offset granules : Nat) (needs : Bool × Bool) (e : DirEntry),
    e = c.entry offset needs →
    e.source = c.source ∧ e.offset = offset ∧ e.length = 64 + 4 * c.profile.rows + c.coded ∧
    e.frStamp = c.record.frStamp ∧ e.rrStamp = c.record.rrStamp ∧ e.take = c.record.take ∧
    e.openLost = c.record.openLost ∧ e.truncated = c.record.truncated ∧ e.concealed = c.record.concealed ∧
    e.stampRepeat = c.record.stampRepeat ∧ (e.flat = true ↔ 1 ≤ c.flats) ∧ e.gap = c.gap ∧
    (e.needA, e.needB) = needs ∧ e.sentA = false ∧ e.sentB = false ∧
    r.complete e granules = { r with
      head := (offset + (e.length + 63) / 64) % granules
      allocated := r.allocated + (e.length + 63) / 64
      reservation := none, running := 0, rowOffsets := [], dir := r.dir ++ [e] }) ∧
  (∀ (s t : State) (st : Stream) (c : Completion) (v : Reservation) (g : Ring),
    (s.ringState st).reservation = some v → (s.tables st).ring = some g → t = s.completeUnit st c →
    t.dram = (s.writeFront st c v.start g).dram ∧ (t.ringState st).reservation = none ∧
    (t.ringState st).running = 0 ∧ (t.ringState st).rowOffsets = [] ∧
    (t.ringState st).head = (v.start + (64 + 4 * c.profile.rows + c.coded + 63) / 64) % g.granules ∧
    (t.ringState st).counters.completed = bump (s.ringState st).counters.completed ∧
    (∃ gone, (s.ringState st).dir.map DirEntry.source ++ [c.source] =
      gone ++ (t.ringState st).dir.map DirEntry.source) ∧
    ((s.needs st c.record.take).1 = true → ∃ e, (t.ringState st).dir.getLast? = some e ∧ e.source = c.source ∧
      e.offset = v.start ∧ e.length = 64 + 4 * c.profile.rows + c.coded ∧ e.take = c.record.take ∧ e.needA = true) ∧
    (∀ r ∈ t.ti.table, r.source = c.source → r.stateOf st = some .stored)) ∧
  (∀ s : State, s.needs .f none = (false, false) ∧
    s.needs .p none = (false, decide (s.prs.lanes.feed = .always)) ∧
    ∀ n t, s.tkc.live n = some t → s.needs .f (some n) = (t.aF, false) ∧
      s.needs .p (some n) = (t.aP, t.bP && decide (s.prs.lanes.feed ≠ .off))) ∧
  (∀ (s : State) (e : DirEntry),
    (∀ n t, e.take = some n → s.tkc.live n = some t →
      s.unitCompleted e .f = (s.handUnit .f e.source e.needA e.needB (some t.number)).handWaiting e.source ∧
      ((∃ r, s.record e.source = some r ∧ r.fState ≠ .stored) → s.unitCompleted e .p = { s with tkc := { s.tkc with
        waiting := s.tkc.waiting ++ [⟨e.source, t.number, e.needA, e.needB⟩] } }) ∧
      ((∀ r, s.record e.source = some r → r.fState = .stored) →
        s.unitCompleted e .p = s.handUnit .p e.source e.needA e.needB (some t.number))) ∧
    (e.take = none → s.unitCompleted e .f = s ∧
      s.unitCompleted e .p = s.handUnit .p e.source e.needA e.needB none)) ∧
  (∀ (s : State) (source : Nat),
    ((∀ w ∈ s.tkc.waiting, w.source ≠ source) → s.handWaiting source = s) ∧
    (∀ w, (s.tkc.waiting.find? fun w => decide (w.source = source)) = some w → s.handWaiting source =
      State.handUnit { s with tkc := { s.tkc with waiting := s.tkc.waiting.filter fun x => decide (x.source ≠ source) } }
        .p source w.toA w.toB (some w.take))) ∧
  (∀ (t : TakeRec) (source : Nat) (e : DirEntry),
    t.countUnit .f source (some e) = { t with
      full := t.full + 1, concealed := t.concealed || e.concealed, flat := t.flat || e.flat
      startStamp := t.startStamp <|> some (e.rrStamp.getD e.frStamp)
      lastFull := some ⟨source, e.rrStamp.getD e.frStamp⟩ } ∧
    t.countUnit .p source (some e) = { t with
      proxy := t.proxy + 1, concealed := t.concealed || e.concealed, flat := t.flat || e.flat
      proxyFirst := t.proxyFirst <|> some source, proxyLast := some source })

/-- Segment 0 goes out with the take number, the stamp, the flag of the counter that gave it and the header check
written into the header; its other bytes, and every other segment, go out as read, and the header in the DRAM stays as it is (R165). -/
def Obligations.SegmentZeroCarriesTheSendFields : Prop :=
  ∀ (s : State) (r : Ring) (e : DirEntry) (data : List Byte), s.segmentData r e 0 = data → 64 ≤ data.length →
    (s.sendData r e 0).length = data.length ∧
    ((s.sendData r e 0).drop 8).take 2 = be 2 (e.take.getD 0) ∧
    ((s.sendData r e 0).drop 10).take 4 = labelBytes (e.rrStamp.getD e.frStamp) ∧
    (fieldAt (s.sendData r e 0) 1 1 / 32 % 2 = if e.rrStamp.isSome then 1 else 0) ∧
    ((s.sendData r e 0).drop 62).take 2 = be 2 (crc16 ((s.sendData r e 0).take 62)).toNat ∧
    (s.sendData r e 0).take 1 = data.take 1 ∧
    fieldAt (s.sendData r e 0) 1 1 % 32 = fieldAt data 1 1 % 32 ∧
    ((s.sendData r e 0).drop 2).take 6 = (data.drop 2).take 6 ∧
    ((s.sendData r e 0).drop 14).take 48 = (data.drop 14).take 48 ∧
    (s.sendData r e 0).drop 64 = data.drop 64 ∧
    (∀ i, i ≠ 0 → s.sendData r e i = s.segmentData r e i) ∧
    ∀ (l : LaneId) (st : Stream) (source : Nat), (s.startSegment l st source).dram = s.dram

/-- Ordinary release takes from the tail exactly the entries that no lane needs and that are not retained, up to the
first that fails a test; the ring's counts follow (R108, R109). -/
def Obligations.OrdinaryReleaseTakesTheFreeTail : Prop :=
  ∀ (s : State) (st : Stream), ∃ gone : List DirEntry,
    (s.ringState st).dir = gone ++ ((s.ordinaryRelease st).ringState st).dir ∧
    (∀ e ∈ gone, e.needA = false ∧ e.needB = false ∧ s.retained e = false) ∧
    (∀ e, ((s.ordinaryRelease st).ringState st).dir.head? = some e →
      e.needA = true ∨ e.needB = true ∨ s.retained e = true) ∧
    ((s.ordinaryRelease st).ringState st).allocated =
      (s.ringState st).allocated - (gone.map fun e => (e.length + 63) / 64).sum ∧
    ((s.ordinaryRelease st).ringState st).head = (s.ringState st).head ∧
    (gone ≠ [] → ((s.ordinaryRelease st).ringState st).tail =
      ((((s.ordinaryRelease st).ringState st).dir.head?.map DirEntry.offset).getD (s.ringState st).head)) ∧
    (s.ordinaryRelease st).dram = s.dram ∧ (s.ordinaryRelease st).ti = s.ti ∧ (s.ordinaryRelease st).tkc = s.tkc

/-! ## Timecode Unit -/

/-- A REF pulse (R122): the label that no picture took is counted, the pending jam is loaded or the free-run counter
advances by one label, and the counts restart; a lost REF is restored with one REF RESTORED notice, which carries the
new free-run label and the opens since the loss. The premise leaves out only a loss that is due and not taken, a state
that no run reaches (QueuesAndCountsStayBounded; log 2). -/
def Obligations.RefPulseAdvancesFreeRun : Prop :=
  ∀ (s : State) (label : Label), (s.tcu.refPresent = true → s.tcu.opensSincePulse < 8) →
    label = ((s.tcu.jam.map Jam.label).getD (s.tcu.freeRun.advance s.tcu.base s.tcu.drop)) →
    exec .refPulse s = .next { s with
      tcu := { s.tcu with
        labelTaken := false
        freeRun := label
        jam := none
        alignAwaiting := s.tcu.alignAwaiting || (s.tcu.jam.map Jam.align).getD false
        refPresent := true
        opensSincePulse := 0
        counters := { s.tcu.counters with
          skippedLabels :=
            if s.tcu.labelTaken then s.tcu.counters.skippedLabels else bump s.tcu.counters.skippedLabels
          jamsLoaded := if s.tcu.jam.isSome then bump s.tcu.counters.jamsLoaded else s.tcu.counters.jamsLoaded
          refPulses := bump s.tcu.counters.refPulses } }
      lsA := if s.tcu.refPresent then s.lsA
        else s.lsA.enqueue 32 (.notice (.refRestored label s.tcu.opensSinceLoss)) }

/-- REF_LOST with eight opens counted and REF still PRESENT: REF is LOST, counted, with one REF LOST notice (R123). The
open that counts the eighth takes the loss itself, so in a run the command finds none due and changes nothing (the
model's choices, logs 1 and 2); a pulse takes a loss that is due first. -/
def Obligations.RefLostAfterEightOpens : Prop :=
  ∀ s : State,
    (s.tcu.refPresent = true → 8 ≤ s.tcu.opensSincePulse →
      exec .refLost s = .next { s with
        tcu := { s.tcu with
          refPresent := false
          opensSinceLoss := 0
          counters := { s.tcu.counters with refLosses := bump s.tcu.counters.refLosses } }
        lsA := s.lsA.enqueue 32 (.notice (.refLost (s.tcu.lastOpen.map LastOpen.source) s.tcu.freeRun)) }) ∧
    (s.tcu.refPresent = false ∨ s.tcu.opensSincePulse < 8 → exec .refLost s = .next s) ∧
    (∀ s1, exec .refLost s = .next s1 → exec .refPulse s = exec .refPulse s1)

/-- A TRIG edge the mode does not select updates the level and nothing else; a selected edge loads the capture record,
advances its counter and gives the TKC an event (R130, R131). An event outside RECORDING starts a take with p = Pmax,
inside it stops the OPEN take with reason TRIGGER, and one whose kind does not fit is ignored and counted alone
(R157). TRIG_EDGE at the level already held is no edge and changes nothing (the model's choice, log 1). -/
def Obligations.TrigEdgesAreTestedAndTaken : Prop :=
  (∀ (s : State) (rising : Bool), exec (.trigEdge s.tcu.trigHigh) s = .next s ∧ (s.tcu.trigHigh ≠ rising →
      ((s.prs.trigger = .off ∨ (s.prs.trigger = .rising ∧ rising = false) ∨
          (s.prs.trigger = .falling ∧ rising = true)) →
        exec (.trigEdge rising) s = .next { s with tcu := { s.tcu with trigHigh := rising } }) ∧
      (∀ k : TrigKind,
        (s.prs.trigger = .rising ∧ rising = true ∧ k = .toggle) ∨
          (s.prs.trigger = .falling ∧ rising = false ∧ k = .toggle) ∨
          (s.prs.trigger = .both ∧ rising = true ∧ k = .start) ∨
          (s.prs.trigger = .both ∧ rising = false ∧ k = .stop) →
        exec (.trigEdge rising) s = .next (State.triggerEvent { s with tcu := { s.tcu with
          trigHigh := rising
          capture := some ⟨s.tcu.lastOpen.map LastOpen.source,
            (s.tcu.lastOpen.map LastOpen.label).getD s.tcu.freeRun⟩
          counters := if rising then { s.tcu.counters with risingEdges := bump s.tcu.counters.risingEdges }
            else { s.tcu.counters with fallingEdges := bump s.tcu.counters.fallingEdges } } } k)))) ∧
  (∀ (s : State) (k : TrigKind),
      (s.tkc.ctl ≠ .recording → k ≠ .stop → s.triggerEvent k = s.startTake s.tkc.pmax) ∧
      (∀ o, s.tkc.ctl = .recording → s.tkc.inState .opened = some o → o.stopPending = none → k ≠ .start →
        s.triggerEvent k = s.leaveOpen o .trigger (s.tkc.stopEnd o)) ∧
      ((s.tkc.ctl ≠ .recording ∧ k = .stop) ∨
        (s.tkc.ctl = .recording ∧ (k = .start ∨ ∀ o, s.tkc.inState .opened = some o → o.stopPending.isSome = true)) →
        s.triggerEvent k = { s with tkc := { s.tkc with counters := { s.tkc.counters with
          ignoredTriggers := bump s.tkc.counters.ignoredTriggers } } }))

/-- SET TIMECODE (R120, R121): its checks in order; the held base and drop setting change only with no take, record or
entry held, and then both counters restart and what depends on the old base is dropped. -/
def Obligations.SetTimecodeChecksAndRebases : Prop :=
  ∀ (s : State) (d : Directive) (rest : List Directive) (base : Nat) (drop : Bool),
    s.accepts .setTimecode d rest → base = fieldAt d.args 0 1 → drop = flagAt d.args 1 →
    (s.tkc.busy = true →
      exec .setTimecode s = .next ((s.countTaken .setTimecode).answer d .refusedBusy .none)) ∧
    (s.tkc.busy = false →
      (base ∉ [24, 25, 30, 48, 50, 60] ∨ (drop = true ∧ base ≠ 30 ∧ base ≠ 60) ∨
        tcModeOf (fieldAt d.args 2 1) = none) →
      exec .setTimecode s = .next ((s.countTaken .setTimecode).answer d .refusedRange .none)) ∧
    (∀ mode, s.tkc.busy = false → base ∈ [24, 25, 30, 48, 50, 60] → (drop = true → base = 30 ∨ base = 60) →
      tcModeOf (fieldAt d.args 2 1) = some mode →
      (base = s.tcu.base → drop = s.tcu.drop →
        exec .setTimecode s = .next (State.answer
          { s.countTaken .setTimecode with tcu := { s.tcu with mode := mode } } d .done .none)) ∧
      ((base ≠ s.tcu.base ∨ drop ≠ s.tcu.drop) →
        (s.ti.table ≠ [] ∨ s.fsc.f.dir ≠ [] ∨ s.fsc.p.dir ≠ [] ∨ s.tkc.takes ≠ []) →
        exec .setTimecode s = .next ((s.countTaken .setTimecode).answer d .refusedBusy .none)) ∧
      ((base ≠ s.tcu.base ∨ drop ≠ s.tcu.drop) → s.ti.table = [] → s.fsc.f.dir = [] → s.fsc.p.dir = [] →
        s.tkc.takes = [] → (s.tcu.refPresent = false ∨ s.tcu.opensSincePulse < 8) →
        exec .setTimecode s = .next (State.answer { s.countTaken .setTimecode with tcu := { s.tcu with
          base := base, drop := drop, mode := mode, freeRun := ⟨0, 0, 0, 0⟩, recordRun := ⟨0, 0, 0, 0⟩
          jam := none, alignAwaiting := false, capture := none, labelTaken := false, lastOpen := none } }
          d .done .none)))

/-- JAM (R126 to R128): a record-run JAM during a take is refused, a label out of range is refused, a label that drop
mode skips is clamped to the second's first held frame; free-run jams wait for the pulse and record-run jams load. -/
def Obligations.JamChecksAndLoads : Prop :=
  ∀ (s : State) (d : Directive) (rest : List Directive) (l : Label), s.accepts .jam d rest → l = labelAt d.args 0 →
    (s.tcu.mode = .recordRun → s.tkc.busy = true →
      exec .jam s = .next ((s.countTaken .jam).answer d .refusedBusy .none)) ∧
    ((s.tcu.mode = .freeRun ∨ s.tkc.busy = false) →
      (24 ≤ l.hours ∨ 60 ≤ l.minutes ∨ 60 ≤ l.seconds ∨ s.tcu.base ≤ l.frames) →
      exec .jam s = .next ((s.countTaken .jam).answer d .refusedRange .none)) ∧
    (∀ (taken : Label) (rc : ReplyCode),
      l.hours < 24 → l.minutes < 60 → l.seconds < 60 → l.frames < s.tcu.base →
      (if s.tcu.drop = true ∧ l.seconds = 0 ∧ l.minutes % 10 ≠ 0 ∧ l.frames < (if s.tcu.base = 60 then 4 else 2) then
        taken = { l with frames := if s.tcu.base = 60 then 4 else 2 } ∧ rc = .doneClamped
      else taken = l ∧ rc = .done) →
      (s.tcu.mode = .freeRun →
        exec .jam s = .next (State.answer { s.countTaken .jam with tcu := { s.tcu with
          jam := some ⟨taken, flagAt d.args 4⟩ } } d rc (.jammed taken true))) ∧
      (s.tcu.mode = .recordRun → s.tkc.busy = false →
        exec .jam s = .next (State.answer { s.countTaken .jam with tcu := { s.tcu with
          recordRun := taken
          alignAwaiting := s.tcu.alignAwaiting || flagAt d.args 4
          counters := { s.tcu.counters with jamsLoaded := bump s.tcu.counters.jamsLoaded } } }
          d rc (.jammed taken false))))

/-! ## Take Controller -/

/-- ARM (R135): a limit above 1,024 is clamped, Pmax and the armed flag are set in every controller state, IDLE
becomes CACHING; they govern the retention and the clamp of a start from then on. DISARM (R136): taken in IDLE and CACHING, where it clears the armed flag, leaves Pmax and ends in
IDLE, so that no unit is retained; refused in RECORDING without any change of the TKC. -/
def Obligations.ArmAndDisarmSetTheRetention : Prop :=
  (∀ (s : State) (d : Directive) (rest : List Directive), s.accepts .arm d rest →
      ∃ t, exec .arm s = .next t ∧
        t = State.answer { s.countTaken .arm with tkc := { s.tkc with
            pmax := min (fieldAt d.args 0 2) 1024
            armed := true
            ctl := if s.tkc.ctl = .recording then .recording else .caching } }
          d (if 1024 < fieldAt d.args 0 2 then .doneClamped else .done) (.armed (min (fieldAt d.args 0 2) 1024)) ∧
        (∀ (e : DirEntry) (n : Nat), s.fsc.newest = some n →
          t.retained e = decide (n < e.source + min (fieldAt d.args 0 2) 1024)) ∧
        (∀ q : Nat, t.tkc.clampPreRoll q = min q (min (fieldAt d.args 0 2) 1024)) ∧
        t.tkc.afterTake = .caching) ∧
  (∀ (s : State) (d : Directive) (rest : List Directive), s.accepts .disarm d rest →
      (s.tkc.ctl = .recording →
        exec .disarm s = .next ((s.countTaken .disarm).answer d .refusedBusy .none)) ∧
      (s.tkc.ctl ≠ .recording → ∃ t, exec .disarm s = .next t ∧
        t = State.answer { s.countTaken .disarm with
          tkc := { s.tkc with armed := false, ctl := .idle } } d .done .none ∧
        ∀ e : DirEntry, t.retained e = false))

/-- START outside RECORDING begins a take with the next take number, S0 just above the last open and the pre-roll that
the walk finds, and replies with them; in RECORDING it is refused (R138 to R141, R182). The take's record joins the
Take Table as OPEN with S0, S, p_actual, the mode and the lane set, and the controller is RECORDING (R138, R139,
R146); each pre-roll picture carries the take number, and an F unit that Lane A shall carry and has not had is handed
to it or to its hold (R142); TAKE OPEN is handed to each lane of the set (R146). The walk joins the longest run of
joinable pictures just below S0, up to the clamped limit (R141). Between a take's TAKE OPEN and TAKE CLOSE a lane is
handed only what is of that take; everything else joins the tail of its hold (R148). -/
def Obligations.StartJoinsTheLongestPreRoll : Prop :=
  (∀ (s : State) (d : Directive) (rest : List Directive), s.accepts .start d rest →
      (s.tkc.ctl = .recording → exec .start s = .next ((s.countTaken .start).answer d .refusedBusy .none)) ∧
      (s.tkc.ctl ≠ .recording → ∃ (t u : State) (p s0 k : Nat),
        p = (if s.tkc.armed then min (fieldAt d.args 0 2) s.tkc.pmax else 0) ∧
        s0 = (match s.tkc.lastOpen with | some n => n + 1 | none => 0) ∧ k = s.preRoll p s0 ∧
        exec .start s = .next t ∧
        t = u.answer d (if p = fieldAt d.args 0 2 then .done else .doneClamped)
          (.started s.tkc.nextTake s0 (s0 - k) k) ∧
        u.tkc.nextTake = (if s.tkc.nextTake = 65535 then 1 else s.tkc.nextTake + 1) ∧
        u.tkc.counters.started = bump s.tkc.counters.started ∧ u.tkc.lastOpen = s.tkc.lastOpen ∧
        u.tkc.armed = s.tkc.armed ∧ u.tkc.pmax = s.tkc.pmax ∧
        u.prs = s.prs ∧ u.ps = s.ps ∧ u.tc = s.tc ∧ u.scF = s.scF ∧ u.scP = s.scP ∧ u.dram = s.dram ∧
        u.ti.fifo = s.ti.fifo ∧ u.tcu.freeRun = s.tcu.freeRun ∧
        (s.oneOpenTake →
          u.tkc.ctl = .recording ∧
          (∃ r ∈ u.tkc.takes, r.number = s.tkc.nextTake ∧ r.state = .opened ∧ r.s0 = s0 ∧ r.s = s0 - k ∧
            r.pActual = k ∧ r.mode = s.tcu.mode ∧ r.aF = s.prs.lanes.aF ∧ r.aP = s.prs.lanes.aP ∧
            r.bP = decide (s.prs.lanes.feed = .takes) ∧ r.e = none ∧ r.stopPending = none ∧ r.reason = none ∧
            r.endStamp = none ∧ r.marks = []) ∧
          (∀ n, s0 ≤ n + k → n < s0 →
            (∀ e, u.fsc.f.entry n = some e → e.take = some s.tkc.nextTake) ∧
            (∀ e, u.fsc.p.entry n = some e → e.take = some s.tkc.nextTake) ∧
            (∀ r, u.record n = some r → r.take = some s.tkc.nextTake) ∧
            (∀ e, s.fsc.f.entry n = some e → s.prs.lanes.aF = true → e.needA = false → e.sentA = false →
              .unit .f n ∈ u.lsA.items ∨ .unit .f n ∈ u.tkc.holdA)) ∧
          (∀ l : LaneId, s.tkc.inState .closing = none → markerCount (s.lane l).items ≤ 126 →
            (match l with
              | .a => s.prs.lanes.aF = true ∨ s.prs.lanes.aP = true
              | .b => s.prs.lanes.feed = .takes) →
            .marker (.takeOpen s.tkc.nextTake s0 (s0 - k) k s.tcu.mode) ∈ (u.lane l).items)))) ∧
  (∀ (s : State) (limit s0 : Nat), s.preRoll limit s0 ≤ limit ∧ s.preRoll limit s0 ≤ s0 ∧
      (∀ n, s0 ≤ n + s.preRoll limit s0 → n < s0 → s.joinable n = true) ∧
      (s.preRoll limit s0 < limit → s.preRoll limit s0 < s0 → s.joinable (s0 - s.preRoll limit s0 - 1) = false)) ∧
  (∀ (s : State) (l : LaneId) (take : Option Nat) (i : Item),
      (∀ c, s.tkc.inState .closing = some c → c.onLane l = true → s.bracket l = some c.number) ∧
      ((∀ c, s.tkc.inState .closing = some c → c.onLane l = false) →
        (∀ o, s.tkc.inState .opened = some o → s.bracket l = if o.onLane l then some o.number else none) ∧
        (s.tkc.inState .opened = none → s.bracket l = none)) ∧
      (s.bracket l = none → s.handItem l take i = s.push l i) ∧
      (∀ b, s.bracket l = some b →
        s.handItem l take i = if take = some b then s.push l i else s.setHold l (s.hold l ++ [i])) ∧
      ((s.pushItem l i).lane l).items = (s.lane l).items ++ [i])

/-- STOP (R149): refused outside RECORDING and while the OPEN take's stop is pending; otherwise it fixes E and the
take leaves OPEN, into CLOSING or with a stop pending when another take is CLOSING. A CLOSING take ends when no record
of it is unfinished and no P unit of it waits: its record gets the end stamp and its end reason, EMPTY with no unit,
TAKE CLOSE goes to each lane of its set with the lane's hold behind it, and a take with a stop pending enters CLOSING
(R147, R148, R150). LS-B keeps the law of R161 at each append: a unit that is not above every unit
its list has held, or that is of another take than the one whose TAKE OPEN the list has taken in, it drops there
(DEDUCED, logs 18 and 37). A cut takes the pictures above the new end out of the take: its number leaves their records
and entries, their needs are cleared, waiting and held units go, and E falls to the new end (R152). -/
def Obligations.StopCloseAndCutEndATake : Prop :=
  (∀ (s : State) (d : Directive) (rest : List Directive), s.accepts .stop d rest →
    (s.tkc.ctl ≠ .recording → exec .stop s = .next ((s.countTaken .stop).answer d .refusedState .none)) ∧
    (∀ (o : TakeRec) (e : Int), s.tkc.ctl = .recording → s.tkc.inState .opened = some o →
      e = (match s.tkc.lastOpen with
        | some n => if n < o.s0 then (o.s0 : Int) - 1 else n
        | none => (o.s0 : Int) - 1) →
      (o.stopPending.isSome = true → exec .stop s = .next ((s.countTaken .stop).answer d .refusedState .none)) ∧
      (∀ c, o.stopPending = none → s.tkc.inState .closing = some c →
        exec .stop s = .next (State.answer
          { s.countTaken .stop with tkc := { s.tkc with takes := s.tkc.takes.map fun x =>
            if x.number = o.number then { x with e := some e, stopPending := some .stop } else x } }
          d .done (.stopped o.number e false))) ∧
      (s.oneOpenTake → o.stopPending = none → s.tkc.inState .closing = none →
        (s.unfinished o.number = true → exec .stop s = .next (State.answer
          { s.countTaken .stop with tkc := { s.tkc with
            takes := s.tkc.takes.map fun x => if x.number = o.number then
              { x with state := .closing, e := some e, reason := some .stop, stopPending := none } else x
            lastEnd := some e
            ctl := if s.tkc.armed then .caching else .idle } }
          d .done (.stopped o.number e true))) ∧
        (s.unfinished o.number = false → ∃ u : State,
          exec .stop s = .next (u.answer d .done (.stopped o.number e true)) ∧
          u.tkc.lastEnd = some e ∧ u.tkc.ctl = (if s.tkc.armed then .caching else .idle) ∧
          u.tkc.nextTake = s.tkc.nextTake ∧ u.ti = s.ti ∧ u.prs = s.prs ∧ u.tcu = s.tcu ∧ u.tc = s.tc ∧
          u.dram = s.dram ∧
          (∀ x ∈ u.tkc.takes, x.number = o.number → x.state = .closed ∧ x.e = some e ∧ x.stopPending = none ∧
            x.endStamp = x.lastFull.map LastFull.stamp ∧
            x.reason = some (if x.full = 0 ∧ x.proxy = 0 then .empty else .stop)) ∧
          ∃ x ∈ u.tkc.takes, x.number = o.number ∧ ∀ l : LaneId, x.onLane l = true →
            (s.lane l).unannounced ≠ some o.number → .marker (.takeClose x) ∈ (u.lane l).items)))) ∧
  (∀ (s : State) (n : Nat), s.unfinished n = true ↔
    (∃ r ∈ s.ti.table, r.take = some n ∧ r.finished = false) ∨ ∃ w ∈ s.tkc.waiting, w.take = n) ∧
  (∀ (s : State) (t c : TakeRec), s.oneOpenTake → s.tkc.inState .closing = some t →
    c = { t with
      state := .closed, endStamp := t.lastFull.map LastFull.stamp
      reason := some (if t.full = 0 ∧ t.proxy = 0 then .empty else t.reason.getD .stop) } →
    (s.unfinished t.number = true → s.testClosing = s) ∧
    (s.unfinished t.number = false →
      (∀ x ∈ s.testClosing.tkc.takes, x.number = t.number → x = c) ∧
      (∀ l : LaneId, t.onLane l = true → (s.lane l).unannounced ≠ some t.number →
        .marker (.takeClose c) ∈ (s.testClosing.lane l).items) ∧
      (∀ o r, s.tkc.inState .opened = some o → o.stopPending = some r →
        s.testClosing.tkc.lastEnd = o.e ∧ s.testClosing.tkc.ctl = (if s.tkc.armed then .caching else .idle) ∧
        ∀ x ∈ s.testClosing.tkc.takes, x.number = o.number →
          x.state ≠ .opened ∧ x.stopPending = none ∧ (x.state = .closing → x.reason = some r)))) ∧
  (∀ (s : State) (t : TakeRec) (l : LaneId), t.onLane l = true →
    s.closeOnLane t l = (s.pushMarker l (.takeClose t)).releaseHold l ∧
    s.releaseHold l = (s.setHold l []).pushAll l (s.hold l)) ∧
  (∀ (s : State) (st : Stream) (source : Nat),
    ((∀ n, s.lsB.lastUnit = some n → n < source) ∧
        (∀ n, s.lsB.openTake = some n → ∃ e, (s.ringState st).entry source = some e ∧ e.take = some n) →
      s.pushUnit .b st source =
        (State.pushItem { s with lsB := { s.lsB with lastUnit := some source } } .b (.unit st source)).backlogTest) ∧
    ((∃ n, s.lsB.lastUnit = some n ∧ source ≤ n) ∨
        (∃ n, s.lsB.openTake = some n ∧ ∀ e, (s.ringState st).entry source = some e → e.take ≠ some n) →
      s.pushUnit .b st source = s.clearNeeds .b [.unit st source]) ∧
    (s.laneBInOrder → (s.pushUnit .b st source).laneBInOrder)) ∧
  (∀ (s : State) (l : LaneId) (n s0 first pActual : Nat) (mode : TcMode) (t : TakeRec),
    (markerCount (s.lane l).items ≤ 126 →
      ((s.pushMarker l (.takeOpen n s0 first pActual mode)).lane l).openTake = some n) ∧
    ((s.lane l).unannounced ≠ some t.number → ((s.pushMarker l (.takeClose t)).lane l).openTake = none)) ∧
  (∀ (s : State) (c : Nat) (reason : EndReason), s.tkc.cutTake c = none → s.cut c reason = { s with tkc := { s.tkc with
    fCut := match s.tkc.fCut with
      | some x => some (max x c)
      | none => some c } }) ∧
  (∀ (s u : State) (c : Nat) (reason : EndReason) (t : TakeRec) (newEnd : Int),
    s.tkc.cutTake c = some t → u = s.cut c reason →
    newEnd = (match t.lastFull with
      | some f => if f.source < c then (f.source : Int) else (t.s : Int) - 1
      | none => (t.s : Int) - 1) →
    u.tkc.fCut = (match s.tkc.fCut with
      | some x => some (max x c)
      | none => some c) ∧
    (∀ st : Stream, ∀ e ∈ (u.ringState st).dir, e.take = some t.number → s.leaves t newEnd e.source = false) ∧
    (∀ r ∈ u.ti.table, r.take = some t.number → s.leaves t newEnd r.source = false) ∧
    (∀ w ∈ u.tkc.waiting, w.take = t.number → s.leaves t newEnd w.source = false) ∧
    (∀ w ∈ s.tkc.waiting, w.take = t.number → s.leaves t newEnd w.source = true →
      ∀ e, u.fsc.p.entry w.source = some e → (w.toA = true → e.needA = false) ∧ (w.toB = true → e.needB = false)) ∧
    (∀ (st : Stream) (source : Nat) (e : DirEntry) (l : LaneId), (s.ringState st).entry source = some e →
      e.take = some t.number → s.leaves t newEnd source = true → .unit st source ∉ u.hold l) ∧
    (∀ x ∈ u.tkc.takes, x.number = t.number →
      (t.state = .opened → t.stopPending = none → x.e = some newEnd ∧
        (s.tkc.inState .closing = none → x.state ≠ .opened)) ∧
      ((t.state ≠ .opened ∨ t.stopPending ≠ none) → ∀ e, x.e = some e → e ≤ newEnd)) ∧
    u.tcu = s.tcu ∧ u.dram = s.dram)

/-- MARK (R156): a code of 0, no OPEN take and 16 marks are refused, the last with its counts; otherwise the mark goes
to the end of the OPEN take's list with the TCU's last open, and goes out in its TAKE CLOSE. -/
def Obligations.MarkJoinsTheOpenTake : Prop :=
  (∀ r : TakeRec, ∃ front : List Byte, front.length = 64 ∧
    (Marker.takeClose r).payload = front ++ r.marks.flatMap Mark.bytes) ∧
  ∀ (s : State) (d : Directive) (rest : List Directive), s.accepts .mark d rest →
    (fieldAt d.args 0 1 = 0 → exec .mark s = .next ((s.countTaken .mark).answer d .refusedRange .none)) ∧
    (fieldAt d.args 0 1 ≠ 0 → s.tkc.inState .opened = none →
      exec .mark s = .next ((s.countTaken .mark).answer d .refusedState .none)) ∧
    (∀ o : TakeRec, fieldAt d.args 0 1 ≠ 0 → s.tkc.inState .opened = some o →
      (16 ≤ o.marks.length → exec .mark s = .next (State.answer
        { s.countTaken .mark with tkc := { s.tkc with
          takes := s.tkc.takes.map fun x => if x.number = o.number then { x with refused := x.refused + 1 } else x
          counters := { s.tkc.counters with marksRefused := bump s.tkc.counters.marksRefused } } }
        d .refusedFull .none)) ∧
      (o.marks.length < 16 → exec .mark s = .next (State.answer
        { s.countTaken .mark with tkc := { s.tkc with
          takes := s.tkc.takes.map fun x => if x.number = o.number then
            { x with marks := x.marks ++ [⟨fieldAt d.args 0 1, d.cls, s.tcu.lastOpen.map LastOpen.source,
              (s.tcu.lastOpen.map LastOpen.label).getD s.tcu.freeRun⟩] } else x } }
        d .done (.marked o.number (o.marks.length + 1)))))

/-- CLEAR TAKES removes the CLOSED records alone, and READ TAKE answers with the record of its number or
REFUSED_RANGE (R155). -/
def Obligations.TakeRecordsAreReadAndCleared : Prop :=
  ∀ (s : State) (d : Directive) (rest : List Directive),
    (s.accepts .clearTakes d rest → exec .clearTakes s = .next (State.answer
      { s.countTaken .clearTakes with tkc := { s.tkc with
        takes := s.tkc.takes.filter fun t => decide (t.state ≠ .closed) } }
      d .done (.cleared (s.tkc.takes.filter fun t => decide (t.state = .closed)).length))) ∧
    (s.accepts .readTake d rest →
      (∀ t, (s.tkc.takes.find? fun t => decide (t.number = fieldAt d.args 0 2)) = some t →
        exec .readTake s = .next ((s.countTaken .readTake).answer d .done (.take t))) ∧
      ((∀ t ∈ s.tkc.takes, t.number ≠ fieldAt d.args 0 2) →
        exec .readTake s = .next ((s.countTaken .readTake).answer d .refusedRange .none)))

/-! ## Profile Store -/

/-- The checks of LOAD PROFILE for stream F, in R2's terms: what passes, and when a load is refused as BUSY; that a load
with no effective F record is never BUSY, and that an invalid effective record is compared with, is DEDUCED (log 13).
The derived quantities of a record that passes: geometry (R5), the bounds of the picture target T and E_(n-1) = T (R6,
whose formula for T is not stated here), and the reservation rounded up to 64 bytes (R7). -/
def Obligations.FProfileIsCheckedAndDerived : Prop :=
  (∀ (s : State) (x : Settings),
      (s.checkF x = some .refusedBusy ↔ s.tkc.busy = true ∧ ∃ p, s.prs.f.profileAt s.ti.nextSource = some p ∧
        (x.width ≠ p.width ∨ x.height ≠ p.height ∨ x.rateCode ≠ p.rateCode)) ∧
      (s.checkF x = none ↔
        ¬ (s.tkc.busy = true ∧ ∃ p, s.prs.f.profileAt s.ti.nextSource = some p ∧
          (x.width ≠ p.width ∨ x.height ≠ p.height ∨ x.rateCode ≠ p.rateCode)) ∧
        x.width % 64 = 0 ∧ 1280 ≤ x.width ∧ x.width ≤ 4096 ∧ x.height % 8 = 0 ∧ 720 ≤ x.height ∧ x.height ≤ 2176 ∧
        x.rateCode ≤ 8 ∧ 10000 ≤ x.rate ∧ x.rate ≤ 800000 ∧ 1 ≤ x.stride ∧ x.stride ≤ 4 ∧
        (∃ l, s.prs.f.ladderAt s.ti.nextSource = some l ∧ x.qlo ≤ x.qstart ∧ x.qstart ≤ x.qhi ∧ x.qhi < l.length) ∧
        16 * x.tiles ≤ x.ceiling ∧
        ∃ r, s.prs.f.ring = some r ∧ 2 * ((64 + 4 * x.rows + x.ceiling + 63) / 64 * 64) ≤ r.pages * 65536) ∧
      (s.checkF x = none ∨ s.checkF x = some .refusedBusy ∨ s.checkF x = some .refusedRange)) ∧
  (∀ (s : State) (args : List Byte) (r : ProfileRec), s.checkF (fSettings args) = none →
      r = (fSettings args).record true 0 →
      r.tilesAcross * 64 = r.width ∧ r.rows * 8 = r.height ∧ r.tiles = (r.width / 64) * (r.height / 8) ∧
      r.padLines = 0 ∧ r.width = fieldAt args 2 2 ∧ r.height = fieldAt args 4 2 ∧
      16 * r.rows ≤ r.target ∧ r.target ≤ r.ceiling ∧ r.rowTarget = r.target / r.rows ∧
      r.expected (r.rows - 1) = r.target ∧ (∀ i, i + 1 < r.rows → r.expected i ≤ r.expected (i + 1)) ∧
      r.reservation % 64 = 0 ∧ 64 + 4 * r.rows + r.ceiling ≤ r.reservation ∧
      r.reservation < 64 + 4 * r.rows + r.ceiling + 64 ∧ r.ceiling = min (fieldAt args 10 4) 8388608)

/-- LOAD PROFILE (R2 to R4, R9, R194): a stream byte of neither stream is refused, a failed check is refused, and a
load that passes overwrites the pending slot with its effective number and posts ACTIVATE. -/
def Obligations.LoadProfileBecomesPending : Prop :=
  ∀ (s : State) (d : Directive) (rest : List Directive), s.accepts .loadProfile d rest →
    (2 ≤ fieldAt d.args 0 1 →
      exec .loadProfile s = .next ((s.countTaken .loadProfile).answer d .refusedRange .none)) ∧
    (∀ rc, fieldAt d.args 0 1 = 0 → s.checkF (fSettings d.args) = some rc →
      exec .loadProfile s = .next ((s.countTaken .loadProfile).answer d rc .none)) ∧
    (fieldAt d.args 0 1 = 0 → s.checkF (fSettings d.args) = none → ∃ (u : State) (rc : ReplyCode),
      exec .loadProfile s = .next (u.answer d rc (.loaded .f s.ti.nextSource)) ∧ rc.isDone = true ∧
      u.prs.f.pendingProfile = some ⟨(fSettings d.args).record true s.prs.nextSerial, s.ti.nextSource⟩ ∧
      u.prs.f.profile = s.prs.f.profile ∧ u.prs.p.profile = s.prs.p.profile ∧ u.prs.f.ring = s.prs.f.ring ∧
      u.prs.p.ring = s.prs.p.ring ∧ u.prs.lanes = s.prs.lanes ∧ u.scF = { s.scF with activate := true } ∧
      u.ti = s.ti ∧ u.tc = s.tc ∧ u.dram = s.dram ∧
      (s.rederiveP (fSettings d.args) = none → u.prs.p = s.prs.p ∧ u.scP = s.scP ∧ rc ≠ .doneConflict)) ∧
    (fieldAt d.args 0 1 = 1 → s.checkP d.args = none →
      exec .loadProfile s = .next ((s.countTaken .loadProfile).answer d .refusedRange .none)) ∧
    (∀ x, fieldAt d.args 0 1 = 1 → s.checkP d.args = some x → ∃ rc : ReplyCode,
      exec .loadProfile s = .next (State.answer { s.countTaken .loadProfile with
        prs := { s.prs with
          p := { s.prs.p with pendingProfile := some ⟨x.record true s.prs.nextSerial, s.ti.nextSource⟩ }
          nextSerial := s.prs.nextSerial + 1 }
        scP := { s.scP with activate := true } } d rc (.loaded .p s.ti.nextSource)) ∧
      (rc = .done ∨ rc = .doneClamped))

/-- LOAD LADDER (R8): refused unless the list has 2 to 32 steps of 1 to 4,095 that never decrease and reaches the qhi
of the effective profile; otherwise pending, with ACTIVATE posted. -/
def Obligations.LoadLadderBecomesPending : Prop :=
  ∀ (s : State) (d : Directive) (rest : List Directive) (st : Stream) (steps : List Nat),
    s.accepts .loadLadder d rest → streamOf (fieldAt d.args 0 1) = some st →
    steps = (List.range (fieldAt d.args 1 1)).map (fun i => fieldAt d.args (2 + 2 * i) 2) →
    ((2 ≤ steps.length ∧ steps.length ≤ 32 ∧ (∀ x ∈ steps, 1 ≤ x ∧ x ≤ 4095) ∧ steps.Pairwise (· ≤ ·) ∧
        ∀ p, (s.tables st).validAt s.ti.nextSource = some p → p.qhi < steps.length) →
      exec .loadLadder s = .next (((s.countTaken .loadLadder).pendLadder st steps).answer d .done
        (.loaded st s.ti.nextSource)) ∧
      ((s.pendLadder st steps).tables st) = { s.tables st with pendingLadder := some ⟨steps, s.ti.nextSource⟩ } ∧
      ((s.pendLadder st steps).ctx st).activate = true) ∧
    (¬ (2 ≤ steps.length ∧ steps.length ≤ 32 ∧ (∀ x ∈ steps, 1 ≤ x ∧ x ≤ 4095) ∧ steps.Pairwise (· ≤ ·) ∧
        ∀ p, (s.tables st).validAt s.ti.nextSource = some p → p.qhi < steps.length) →
      exec .loadLadder s = .next ((s.countTaken .loadLadder).answer d .refusedRange .none))

/-- SET RING (R13, R95): its checks in order; a ring that passes replaces the stream's ring and puts the FSC's ring
state at its start. -/
def Obligations.SetRingReplacesTheRing : Prop :=
  ∀ (s : State) (d : Directive) (rest : List Directive) (st : Stream) (r : Ring), s.accepts .setRing d rest →
    streamOf (fieldAt d.args 0 1) = some st → r = ⟨fieldAt d.args 1 2, fieldAt d.args 3 4⟩ →
    ((s.tkc.ctl ≠ .idle ∨ (s.ringState st).dir ≠ [] ∨ (s.ringState st).reservation ≠ none) →
      exec .setRing s = .next ((s.countTaken .setRing).answer d .refusedBusy .none)) ∧
    (s.tkc.ctl = .idle → (s.ringState st).dir = [] → (s.ringState st).reservation = none →
      ((1 ≤ r.pages ∧ r.base + r.pages ≤ 65536 ∧
          (∀ o, (s.tables st.other).ring = some o → r.base + r.pages ≤ o.base ∨ o.base + o.pages ≤ r.base) ∧
          (∀ p, (s.tables st).profile = some p → p.valid = true → 2 * p.reservation ≤ r.pages * 65536) ∧
          ∀ p, (s.tables st).pendingProfile = some p → p.record.valid = true →
            2 * p.record.reservation ≤ r.pages * 65536) →
        exec .setRing s = .next (((s.countTaken .setRing).setRing st r).answer d .done .none) ∧
        ((s.setRing st r).tables st) = { s.tables st with ring := some r } ∧
        ((s.setRing st r).ringState st) = { s.ringState st with
          tail := 0, head := 0, allocated := 0, reservation := none, spillLatch := false }) ∧
      (¬ (1 ≤ r.pages ∧ r.base + r.pages ≤ 65536 ∧
          (∀ o, (s.tables st.other).ring = some o → r.base + r.pages ≤ o.base ∨ o.base + o.pages ≤ r.base) ∧
          (∀ p, (s.tables st).profile = some p → p.valid = true → 2 * p.reservation ≤ r.pages * 65536) ∧
          ∀ p, (s.tables st).pendingProfile = some p → p.record.valid = true →
            2 * p.record.reservation ≤ r.pages * 65536) →
        exec .setRing s = .next ((s.countTaken .setRing).answer d .refusedRange .none)))

/-- SET LANES (R14): refused for a code or Bmax outside its values, and as BUSY when it changes what a take holds;
otherwise the whole record is replaced, with P stored for Lane B. SET LANE B FEED (R15): taken from either class in
any state of the TKC; Lane B's list is left to its next backlog test. SET TRIGGER (R16): a mode outside the four is
refused; otherwise the mode is replaced, and the edges taken after it are tested against the new mode. -/
def Obligations.LaneAndTriggerSettingsAreReplaced : Prop :=
  (∀ (s : State) (d : Directive) (rest : List Directive), s.accepts .setLanes d rest →
      ((carriageOf (fieldAt d.args 0 1) = none ∨ carriageOf (fieldAt d.args 1 1) = none ∨
          feedOf (fieldAt d.args 2 1) = none ∨ streamOf (fieldAt d.args 3 1) = none ∨
          fieldAt d.args 4 1 = 0 ∨ 16 < fieldAt d.args 4 1) →
        exec .setLanes s = .next ((s.countTaken .setLanes).answer d .refusedRange .none)) ∧
      (∀ (aF aP : Bool) (feed : Feed) (st : Stream),
        carriageOf (fieldAt d.args 0 1) = some aF → carriageOf (fieldAt d.args 1 1) = some aP →
        feedOf (fieldAt d.args 2 1) = some feed → streamOf (fieldAt d.args 3 1) = some st →
        1 ≤ fieldAt d.args 4 1 → fieldAt d.args 4 1 ≤ 16 →
        (s.tkc.busy = true → (aF ≠ s.prs.lanes.aF ∨ aP ≠ s.prs.lanes.aP ∨ s.prs.lanes.bStream ≠ .p) →
          exec .setLanes s = .next ((s.countTaken .setLanes).answer d .refusedBusy .none)) ∧
        ((s.tkc.busy = false ∨ (aF = s.prs.lanes.aF ∧ aP = s.prs.lanes.aP ∧ s.prs.lanes.bStream = .p)) →
          exec .setLanes s = .next (State.answer { s.countTaken .setLanes with
            prs := { s.prs with lanes := ⟨aF, aP, feed, .p, fieldAt d.args 4 1⟩ } }
            d (if st = .f then .doneConflict else .done) .none)))) ∧
  (∀ (s : State) (d : Directive) (rest : List Directive), s.accepts .setLaneBFeed d rest →
      ((feedOf (fieldAt d.args 0 1) = none ∨ fieldAt d.args 1 1 = 0 ∨ 16 < fieldAt d.args 1 1) →
        exec .setLaneBFeed s = .next ((s.countTaken .setLaneBFeed).answer d .refusedRange .none)) ∧
      (∀ feed, feedOf (fieldAt d.args 0 1) = some feed → 1 ≤ fieldAt d.args 1 1 → fieldAt d.args 1 1 ≤ 16 →
        ∃ t, exec .setLaneBFeed s = .next t ∧
          t = State.answer { s.countTaken .setLaneBFeed with prs := { s.prs with
            lanes := { s.prs.lanes with feed := feed, bmax := fieldAt d.args 1 1 } } } d .done .none ∧
          t.lsB.items = s.lsB.items)) ∧
  (∀ (s : State) (d : Directive) (rest : List Directive), s.accepts .setTrigger d rest →
      (4 ≤ fieldAt d.args 0 1 →
        exec .setTrigger s = .next ((s.countTaken .setTrigger).answer d .refusedRange .none)) ∧
      (∀ m, (fieldAt d.args 0 1, m) ∈ [(0, TrigMode.off), (1, .rising), (2, .falling), (3, .both)] →
        ∃ t, exec .setTrigger s = .next t ∧
          t = State.answer { s.countTaken .setTrigger with prs := { s.prs with trigger := m } } d .done .none ∧
          t.tcu = s.tcu ∧
          ∀ rising : Bool, rising ≠ t.tcu.trigHigh →
            (m = .off ∨ (m = .rising ∧ rising = false) ∨ (m = .falling ∧ rising = true)) →
            exec (.trigEdge rising) t = .next { t with tcu := { t.tcu with trigHigh := rising } }))

/-! ## Lane senders -/

/-- A credit pulse while the lane's transmitter is SENDING: one block more, or one excess pulse at 65,535; the stall
count restarts, and a latched stall ends with one LANE RESUMED notice on Lane A that carries the count (R163, R172).
LANE_STALL reports a stall at 32 opens with the latch clear, once (R171); the open that brings it about reports it
itself, so in a run the command finds none due, and one that is not due changes nothing (the model's choices, logs 1
and 2); a pulse takes a stall that is due first. The end of Lane A's own stall is not covered here. -/
def Obligations.CreditPulseAddsABlockAndEndsAStall : Prop :=
  ∀ s : State,
    (∀ l : LaneId, (s.lane l).tx.isSome = true → (s.lane l).stallLatch = false → (s.lane l).stall < 32 →
      exec (.creditPulse l) s = .next (s.setLane l { s.lane l with
        stall := 0
        credit := if (s.lane l).credit = 65535 then 65535 else (s.lane l).credit + 1
        counters := { (s.lane l).counters with
          pulses := bump (s.lane l).counters.pulses
          excess := if (s.lane l).credit = 65535 then bump (s.lane l).counters.excess
            else (s.lane l).counters.excess } })) ∧
    (s.lsB.tx.isSome = true → s.lsB.stallLatch = true → s.lsB.credit < 65535 →
      exec (.creditPulse .b) s = .next { s with
        lsA := s.lsA.enqueue 32 (.notice (.laneResumed .b s.lsB.stall))
        lsB := { s.lsB with
          stall := 0, stallLatch := false, credit := s.lsB.credit + 1
          counters := { s.lsB.counters with pulses := bump s.lsB.counters.pulses } } }) ∧
    (∀ (l : LaneId) (st : Stream) (source : Nat) (rest : List Item), (s.lane l).items = .unit st source :: rest →
      (32 ≤ (s.lane l).stall → (s.lane l).stallLatch = false → ∃ t, exec (.laneStall l) s = .next t ∧
        t = State.notify (s.setLane l { s.lane l with
            stallLatch := true
            counters := { (s.lane l).counters with stalls := bump (s.lane l).counters.stalls } })
          (.laneStall l st source (s.lane l).nextIndex 32) ∧
        exec (.creditPulse l) s = exec (.creditPulse l) t) ∧
      ((s.lane l).stall < 32 ∨ (s.lane l).stallLatch = true → exec (.laneStall l) s = .next s)) ∧
    (∀ l : LaneId, (∀ st source rest, (s.lane l).items ≠ .unit st source :: rest) →
      exec (.laneStall l) s = .next s)

/-- A credit pulse on a FREE lane whose list has a unit at its head and whose report queue is empty: the unit's next
segment is chosen at once, read from its extent, and takes the block (R162 to R164, R169). That the segment counts at
its choice is DEDUCED (log 20). -/
def Obligations.CreditLetsTheNextSegmentGo : Prop :=
  ∀ (s : State) (l : LaneId) (st : Stream) (source : Nat) (rest : List Item) (e : DirEntry) (r : Ring) (i : Nat),
    (s.lane l).tx = none → (s.lane l).queue = [] → (s.lane l).items = .unit st source :: rest →
    (s.lane l).stallLatch = false → (s.lane l).stall < 32 → (s.lane l).credit < 65535 →
    (s.ringState st).entry source = some e → (s.tables st).ring = some r → i = (s.lane l).nextIndex →
    ∃ (t : State) (g : Segment), exec (.creditPulse l) s = .next t ∧ (t.lane l).tx = some (.segment g) ∧
      g = { stream := st, source := e.source, index := i, last := i + 1 == (e.length + 4095) / 4096
            damaged := !(s.badWords r e i).isEmpty
            dropCount := if l = .b ∧ i = 0 then s.lsB.dropPending else 0
            data := s.sendData r e i } ∧
      (t.lane l).credit = (s.lane l).credit ∧ (t.lane l).inProgress = some ⟨st, e.source, i + 1⟩ ∧
      (t.lane l).items = (s.lane l).items ∧ (t.lane l).counters.segments = bump (s.lane l).counters.segments ∧
      (t.lane l).counters.damaged = addSat (s.lane l).counters.damaged (if g.damaged then 1 else 0) ∧
      t.lsB.dropPending = (if l = .b ∧ i = 0 then 0 else s.lsB.dropPending) ∧
      t.ti = s.ti ∧ t.prs = s.prs ∧ t.ps = s.ps ∧ t.tc = s.tc ∧ t.scF = s.scF ∧ t.scP = s.scP ∧ t.tcu = s.tcu ∧
      t.tkc = s.tkc ∧ t.du = s.du ∧ t.dram = s.dram

/-- The end of a packet (R162, R166, R167): a FREE lane has none; behind a report the oldest queued report goes out
first; a sent marker leaves the list; the last segment of the unit in progress sets its sent-on flag, clears its need,
takes the unit from the list and counts it, and the stream's ring is released as R109 gives. A FREE lane's command
changes nothing (the model's choice, log 1); a report counts at its choice (DEDUCED, log 20). Segments that are not
the last and lists with more behind the head are not covered here. -/
def Obligations.SentPacketLeavesItsLane : Prop :=
  ∀ (s : State) (l : LaneId),
    ((s.lane l).tx = none → exec (.lanePacketSent l) s = .next s) ∧
    (∀ r q rest, (s.lane l).tx = some (.report r) → (s.lane l).queue = q :: rest →
      exec (.lanePacketSent l) s = .next (s.setLane l { s.lane l with
        tx := some (.report q), queue := rest
        counters := { (s.lane l).counters with reports := bump (s.lane l).counters.reports } })) ∧
    (∀ r, (s.lane l).tx = some (.report r) → (s.lane l).queue = [] → (s.lane l).items = [] →
      exec (.lanePacketSent l) s = .next (s.setLane l { s.lane l with tx := none })) ∧
    (∀ m, (s.lane l).tx = some (.marker m) → (s.lane l).queue = [] → (s.lane l).items = [.marker m] →
      exec (.lanePacketSent l) s = .next (s.setLane l { s.lane l with
        tx := none, items := []
        counters := { (s.lane l).counters with markers := bump (s.lane l).counters.markers } })) ∧
    (∀ (g : Segment) (u : State), (s.lane l).tx = some (.segment g) → g.last = true →
      (s.lane l).inProgress = some ⟨g.stream, g.source, g.index + 1⟩ → (s.lane l).queue = [] →
      (s.lane l).items = [.unit g.stream g.source] →
      u = s.editEntry g.stream g.source (fun e => e.markSent l) →
      exec (.lanePacketSent l) s = .next ((u.ordinaryRelease g.stream).setLane l { s.lane l with
        tx := none, items := [], inProgress := none
        counters := { (s.lane l).counters with units := bump (s.lane l).counters.units } }))

/-! ## Directive Unit -/

/-- A report that finds room joins its queue with the lost count, which restarts; a FREE transmitter takes it at once;
one that finds the queue full is lost and counted, and the reports held stay (R162, R185, R186). A reply goes to the
lane of its class and leaves the FIFO with the directive (R180). A report counts as sent when a FREE transmitter takes
it (DEDUCED, log 20). -/
def Obligations.ReportsAreAdmittedOrLost : Prop :=
  (∀ (x : LaneSender) (c : Nat) (r : Report),
    (x.queue.length < c → x.tx.isSome = true →
      x.enqueue c r = { x with queue := x.queue ++ [⟨r, x.lost⟩], lost := 0 }) ∧
    (0 < c → x.queue = [] → x.tx = none →
      x.enqueue c r = { x with
        tx := some (.report ⟨r, x.lost⟩), lost := 0
        counters := { x.counters with reports := bump x.counters.reports } }) ∧
    (c ≤ x.queue.length →
      x.enqueue c r = { x with
        lost := min (x.lost + 1) 65535
        counters := { x.counters with refusedReports := bump x.counters.refusedReports } })) ∧
  (∀ (s : State) (d : Directive) (rest : List Directive) (rc : ReplyCode) (data : ReplyData),
    s.du.fifo = d :: rest →
    s.answer d rc data = { s with
      du := { s.du with fifo := rest, counters := s.du.counters.countRefusal rc }
      lsA := if d.cls = .console then s.lsA.enqueue 32 (.reply d.cls d.code d.tag rc data) else s.lsA
      lsB := if d.cls = .accessory then s.lsB.enqueue 8 (.reply d.cls d.code d.tag rc data) else s.lsB })

/-- The DU's own checks of the head directive, in order: an unknown code, a privileged directive of an accessory, an
argument length that is not the code's; each is answered and nothing else changes (R178, R179). An execution whose
directive is not the head is no event (log 27). -/
def Obligations.DirectiveChecksComeInOrder : Prop :=
  ∀ (s : State) (d : Directive) (rest : List Directive), s.du.fifo = d :: rest →
    (∀ k : DirKind, d.code ≠ k.code → exec k.command s = .next s) ∧
    ((∀ k : DirKind, d.code ≠ k.code) → exec .unknownDirective s = .next (s.answer d .refusedUnknown .none)) ∧
    (∀ k : DirKind, d.code = k.code →
      exec .unknownDirective s = .next s ∧
      (k.privileged = true → d.cls = .accessory → exec k.command s = .next (s.answer d .refusedClass .none)) ∧
      (k.privileged = false ∨ d.cls = .console → d.args.length ≠ k.argLength d.args →
        exec k.command s = .next (s.answer d .refusedFormat .none)))

/-- QUERY: the snapshot carries the values before the clear; the clear sets the counters of the group to 0 and nothing
else; without it nothing changes; a group code of none is refused (R188, R189). The QUERY is counted as taken first.
-/
def Obligations.QueryGivesTheSnapshotThenClears : Prop :=
  ∀ (s : State) (d : Directive) (rest : List Directive), s.accepts .query d rest →
    (groupOf (fieldAt d.args 0 1) = none →
      exec .query s = .next ((s.countTaken .query).answer d .refusedRange .none)) ∧
    (∀ g, groupOf (fieldAt d.args 0 1) = some g → ∃ u : State,
      exec .query s = .next (u.answer d .done
        (.snapshot (fieldAt d.args 0 1) ((s.countTaken .query).snapshot g))) ∧
      (flagAt d.args 1 = false → u = s.countTaken .query) ∧
      (flagAt d.args 1 = true →
        u.ti = { s.ti with counters := if g = .intake then {} else s.ti.counters } ∧
        u.prs = s.prs ∧
        u.ps = { s.ps with counters := if g = .scaler then {} else s.ps.counters } ∧
        u.tc = { s.tc with counters := if g = .coder then {} else s.tc.counters } ∧
        u.scF = { s.scF with counters := if g = .coder then {} else s.scF.counters } ∧
        u.scP = { s.scP with counters := if g = .coder then {} else s.scP.counters } ∧
        u.fsc = { s.fsc with
          f := { s.fsc.f with counters := if g = .store then {} else s.fsc.f.counters }
          p := { s.fsc.p with counters := if g = .store then {} else s.fsc.p.counters }
          corrected := if g = .store then 0 else s.fsc.corrected
          uncorrectable := if g = .store then 0 else s.fsc.uncorrectable } ∧
        u.tcu = { s.tcu with counters := if g = .timecode then {} else s.tcu.counters } ∧
        u.tkc = { s.tkc with counters := if g = .takes then {} else s.tkc.counters } ∧
        u.lsA = { s.lsA with counters := if g = .lanes then {} else s.lsA.counters } ∧
        u.lsB = { s.lsB with counters := if g = .lanes then {} else s.lsB.counters } ∧
        u.du = { s.du with counters := if g = .directives then {} else (s.countTaken .query).du.counters } ∧
        u.dram = s.dram))

/-- RESTART of stream F (R62, R65, R183): posted while its context is not INACTIVE, with the tag and class kept for
the reply while the list holds fewer than 8; applied and answered at once while the context is INACTIVE and no reply
waits. A stream byte of neither stream is refused. An INACTIVE context tells the TKC nothing (DEDUCED, log 14), and
with no profile held its rung is 0 (the model's choice, log 5). An INACTIVE context with replies waiting is not
covered here. -/
def Obligations.RestartIsPostedOrAppliedAtOnce : Prop :=
  ∀ (s : State) (d : Directive) (rest : List Directive), s.accepts .restart d rest →
    (2 ≤ fieldAt d.args 0 1 → exec .restart s = .next ((s.countTaken .restart).answer d .refusedRange .none)) ∧
    (fieldAt d.args 0 1 = 0 → (s.ws .f).state ≠ .inactive →
      exec .restart s = .next { s with
        du := { s.du with
          fifo := rest
          waitF := if s.du.waitF.length < 8 then s.du.waitF ++ [⟨d.tag, d.cls⟩] else s.du.waitF
          counters := { (s.countTaken .restart).du.counters with
            waitOverflows := if s.du.waitF.length < 8 then s.du.counters.waitOverflows
              else bump s.du.counters.waitOverflows } }
        scF := { s.scF with restart := true } }) ∧
    (fieldAt d.args 0 1 = 0 → (s.ws .f).state = .inactive → s.du.waitF = [] →
      ∃ t, exec .restart s = .next t ∧ t.du.fifo = rest ∧ t.du.waitF = [] ∧ (t.ws .f).state = .inactive ∧
        (t.ws .f).q = ((s.prs.f.profile.map ProfileRec.qstart).getD 0) ∧ (t.ws .f).debt = 0 ∧
        t.scF.restart = false ∧ t.scF.abandon = none ∧
        t.scF.activate = (s.scF.activate && (s.prs.f.pendingProfile.isSome || s.prs.f.pendingLadder.isSome)) ∧
        t.scF.counters = { s.scF.counters with restarts := bump s.scF.counters.restarts } ∧
        t.scF.gap = s.scF.gap ∧ t.scP = s.scP ∧ t.ps = s.ps ∧ t.ti = s.ti ∧ t.prs = s.prs ∧ t.tkc = s.tkc ∧
        t.fsc = s.fsc ∧ t.tcu = s.tcu ∧ t.dram = s.dram ∧ t.lsB = s.lsB ∧
        t.lsA = s.lsA.enqueue 32 (.reply .console d.code d.tag .done (.restarted .f none)))

/-- RESTART of stream P acts on the PS at its execution, whatever the state of SC-P: the band is cleared, every slot
but one held by a begun turn is emptied, SCALING becomes IGNORING; the phase counter, the adopted record and the
counters stay (R54). SC-P gets the request, or applies it when INACTIVE (R65). -/
def Obligations.RestartOfStreamPClearsTheScaler : Prop :=
  ∀ (s : State) (d : Directive) (rest : List Directive), s.accepts .restart d rest → fieldAt d.args 0 1 = 1 →
    ∃ t, exec .restart s = .next t ∧ t.du.fifo = rest ∧
      t.ps.band = {} ∧ t.ps.phase = s.ps.phase ∧ t.ps.adopted = s.ps.adopted ∧ t.ps.counters = s.ps.counters ∧
      t.ps.mode = (if s.ps.mode = .scaling then .ignoring else s.ps.mode) ∧
      (∀ i : SlotId, t.ps.slot i = if s.slotTaken i then s.ps.slot i else none) ∧
      (t.ws .p).state = (s.ws .p).state ∧ (t.ws .p).picture = (s.ws .p).picture ∧
      t.scP.restart = decide ((s.ws .p).state ≠ .inactive) ∧
      ((s.ws .p).state ≠ .inactive → s.du.waitP.length < 8 → t.du.waitP = s.du.waitP ++ [⟨d.tag, d.cls⟩]) ∧
      ((s.ws .p).state = .inactive → t.du.waitP = [] ∧ (t.ws .p).debt = 0) ∧
      t.scF = s.scF ∧ t.prs = s.prs ∧ t.tcu = s.tcu ∧ t.dram = s.dram ∧ t.ti.fifo = s.ti.fifo

/-- RESET (R18, R39, R55, R76, R116, R133, R158, R174, R184, R190): every block takes its reset, the loaded tables
stay with their pending records promoted, the directives held behind it stay, and its reply is the first report on
Lane A, with a lost count of 0. That both transmitters are FREE within the step and the reply already being sent is
the model's choice (log 28), as is a rung of 0 with no profile held (log 5); the reply counts as sent at its choice
(DEDUCED, log 20). The premise leaves out only a REF loss that is due and not taken, a state that no run reaches (log
2). -/
def Obligations.ResetDirectiveResetsThePlane : Prop :=
  ∀ (s : State) (d : Directive) (rest : List Directive), s.accepts .reset d rest →
    (s.tcu.refPresent = false ∨ s.tcu.opensSincePulse < 8) →
    ∃ t, exec .reset s = .next t ∧
      t.du.fifo = rest ∧ t.du.waitF = [] ∧ t.du.waitP = [] ∧ t.du.counters = {} ∧
      t.lsB = {} ∧ t.lsA = { ({} : LaneSender) with
        tx := some (.report ⟨.reply .console d.code d.tag .done .none, 0⟩), counters := { reports := 1 } } ∧
      (t.ti.link = .hunt ∧ t.ti.fails = 0 ∧ t.ti.fifo = [] ∧ t.ti.table = [] ∧ t.ti.nextSource = 0 ∧
        t.ti.status = .idle ∧ t.ti.geometryLatch = false ∧ t.ti.capacityLatch = false ∧ t.ti.counters = {}) ∧
      t.prs.lanes = s.prs.lanes ∧ t.prs.trigger = s.prs.trigger ∧
      (∀ st : Stream, (t.tables st).ring = (s.tables st).ring ∧ (t.tables st).pendingProfile = none ∧
        (t.tables st).pendingLadder = none ∧
        (t.tables st).profile =
          ((s.tables st).pendingProfile.map PendingProfile.record <|> (s.tables st).profile) ∧
        (t.tables st).ladder = ((s.tables st).pendingLadder.map PendingLadder.steps <|> (s.tables st).ladder) ∧
        (t.ws st).debt = 0 ∧ (t.ws st).picture = none ∧
        (t.ws st).q = (((t.tables st).profile.map ProfileRec.qstart).getD 0) ∧
        (t.ws st).state = (if (∃ p, (t.tables st).profile = some p ∧ p.valid = true) ∧
          (t.tables st).ladder ≠ none then .ready else .inactive) ∧
        (t.ws st).coded = 0 ∧ (t.ws st).flatLatch = false ∧ (t.ws st).flats = 0 ∧ (t.ws st).raws = 0 ∧
        (t.ws st).conceals = 0 ∧ (t.ws st).saturations = 0 ∧ (t.ws st).unitPos = none ∧
        (t.ctx st).restart = false ∧ (t.ctx st).abandon = none ∧ (t.ctx st).activate = false ∧
        (t.ctx st).gap = 0 ∧ (t.ctx st).counters = {} ∧
        (t.ringState st).dir = [] ∧ (t.ringState st).reservation = none ∧ (t.ringState st).allocated = 0 ∧
        (t.ringState st).head = 0 ∧ (t.ringState st).tail = 0 ∧ (t.ringState st).spillLatch = false ∧
        (t.ringState st).counters = {}) ∧
      (t.ps.mode = .idle ∧ t.ps.scaled = none ∧ t.ps.phase = 0 ∧ t.ps.adopted = none ∧ t.ps.band = {} ∧
        t.ps.slot1 = none ∧ t.ps.slot2 = none ∧ t.ps.counters = {}) ∧
      (t.tc.loaded = none ∧ t.tc.turn = none ∧ t.tc.share = 0 ∧ t.tc.counters = {}) ∧
      (t.fsc.newest = none ∧ t.fsc.lastFault = none ∧ t.fsc.corrected = 0 ∧ t.fsc.uncorrectable = 0) ∧
      t.tcu = { s.tcu with
        recordRun := ⟨0, 0, 0, 0⟩, jam := none, alignAwaiting := false, capture := none, labelTaken := false
        lastOpen := none, counters := {} } ∧
      (t.tkc.ctl = .idle ∧ t.tkc.armed = false ∧ t.tkc.pmax = 0 ∧ t.tkc.nextTake = 1 ∧ t.tkc.takes = [] ∧
        t.tkc.lastOpen = none ∧ t.tkc.lastEnd = none ∧ t.tkc.fCut = none ∧ t.tkc.holdA = [] ∧ t.tkc.holdB = [] ∧
        t.tkc.waiting = [] ∧ t.tkc.counters = {}) ∧
      t.dram = s.dram
end

