-- ==== Sys2Proof/Laws/State.lean ====
section
/-! SUPPORT. Reading back what an update of the state has written: one lemma per accessor and setter of Ops, and
the fold of an update that leaves a field alone. -/

namespace Sys2Proof.Machine

/-- A fold of updates that each leave `g` alone leaves it alone. -/
theorem foldl_frame {α β : Type} (g : State → β) (f : State → α → State) (h : ∀ s a, g (f s a) = g s) (l : List α)
    (s : State) : g (l.foldl f s) = g s := by
  induction l generalizing s with
  | nil => rfl
  | cons a l ih => simp [List.foldl, ih, h]

/-! ## Tables -/

@[simp] theorem State.tables_f (s : State) : s.tables .f = s.prs.f := rfl
@[simp] theorem State.tables_p (s : State) : s.tables .p = s.prs.p := rfl
@[simp] theorem State.setTables_f (s : State) (t : StreamTables) :
    s.setTables .f t = { s with prs := { s.prs with f := t } } := rfl
@[simp] theorem State.setTables_p (s : State) (t : StreamTables) :
    s.setTables .p t = { s with prs := { s.prs with p := t } } := rfl
@[simp] theorem State.tables_setTables (s : State) (st : Stream) (t : StreamTables) :
    (s.setTables st t).tables st = t := by cases st <;> rfl

/-! ## Contexts -/

@[simp] theorem State.ctx_f (s : State) : s.ctx .f = s.scF := rfl
@[simp] theorem State.ctx_p (s : State) : s.ctx .p = s.scP := rfl
@[simp] theorem State.setCtx_f (s : State) (c : Ctx) : s.setCtx .f c = { s with scF := c } := rfl
@[simp] theorem State.setCtx_p (s : State) (c : Ctx) : s.setCtx .p c = { s with scP := c } := rfl
@[simp] theorem State.ctx_setCtx (s : State) (st : Stream) (c : Ctx) : (s.setCtx st c).ctx st = c := by
  cases st <;> rfl

/-- A working set reads back as it was written, whether the context is loaded or not. -/
@[simp] theorem State.ws_setWs (s : State) (st : Stream) (w : WorkingSet) : (s.setWs st w).ws st = w := by
  unfold State.setWs State.ws
  by_cases h : s.tc.loaded = some st
  · simp [h]
  · cases st <;> simp [h]

/-! ## Rings -/

@[simp] theorem State.ringState_f (s : State) : s.ringState .f = s.fsc.f := rfl
@[simp] theorem State.ringState_p (s : State) : s.ringState .p = s.fsc.p := rfl
@[simp] theorem State.setRingState_f (s : State) (r : RingState) :
    s.setRingState .f r = { s with fsc := { s.fsc with f := r } } := rfl
@[simp] theorem State.setRingState_p (s : State) (r : RingState) :
    s.setRingState .p r = { s with fsc := { s.fsc with p := r } } := rfl
@[simp] theorem State.ringState_setRingState (s : State) (st : Stream) (r : RingState) :
    (s.setRingState st r).ringState st = r := by cases st <;> rfl

/-! ## Lanes and holds -/

@[simp] theorem State.lane_a (s : State) : s.lane .a = s.lsA := rfl
@[simp] theorem State.lane_b (s : State) : s.lane .b = s.lsB := rfl
@[simp] theorem State.setLane_a (s : State) (x : LaneSender) : s.setLane .a x = { s with lsA := x } := rfl
@[simp] theorem State.setLane_b (s : State) (x : LaneSender) : s.setLane .b x = { s with lsB := x } := rfl
@[simp] theorem State.lane_setLane (s : State) (l : LaneId) (x : LaneSender) : (s.setLane l x).lane l = x := by
  cases l <;> rfl
@[simp] theorem State.hold_setHold (s : State) (l : LaneId) (x : List Item) : (s.setHold l x).hold l = x := by
  cases l <;> rfl

/-! ## Slots -/

@[simp] theorem Ps.slot_setSlot (p : Ps) (i : SlotId) (x : Option ProxyRow) : (p.setSlot i x).slot i = x := by
  cases i <;> rfl
theorem Ps.older_setSlot_none (p : Ps) (i : SlotId) :
    (p.setSlot i none).slot i = none ∧ (p.setSlot i none).counters = p.counters := by cases i <;> exact ⟨rfl, rfl⟩

/-! ## Reports -/

/-- A report changes the queue, the transmitter, the lost count and the counters of its lane, and no more. -/
theorem LaneSender.enqueue_frame (x : LaneSender) (c : Nat) (r : Report) :
    (x.enqueue c r).items = x.items ∧ (x.enqueue c r).inProgress = x.inProgress ∧
    (x.enqueue c r).unannounced = x.unannounced ∧ (x.enqueue c r).credit = x.credit ∧
    (x.enqueue c r).stall = x.stall ∧ (x.enqueue c r).stallLatch = x.stallLatch ∧
    (x.enqueue c r).dropPending = x.dropPending := by
  unfold LaneSender.enqueue LaneSender.startReport
  (repeat' split) <;> simp

/-- A queue that has room is no longer than its capacity after a report. -/
theorem LaneSender.enqueue_length (x : LaneSender) (c : Nat) (r : Report) (h : x.queue.length ≤ c) :
    (x.enqueue c r).queue.length ≤ c := by
  unfold LaneSender.enqueue LaneSender.startReport
  have hl : ∀ (a : QueuedReport) l, x.queue ++ [(⟨r, x.lost⟩ : QueuedReport)] = a :: l → l.length = x.queue.length := by
    intro a l e
    have := congrArg List.length e
    simp at this; omega
  split
  · split
    · rename_i h1 _ a rest _ e
      have := hl a rest e
      simp; omega
    · simp; omega
  · exact h

end Sys2Proof.Machine
end

