-- ==== Sys2Proof/Laws/FramesStore.lean ====
section
/-! SUPPORT. What each operation of Ops, Store, Lanes and Execute leaves unchanged, one lemma per operation. -/

namespace Sys2Proof.Machine

@[simp] theorem State.setTables_frame (s : State) (st : Stream) (t : StreamTables) :
    (s.setTables st t).ti = s.ti ∧ (s.setTables st t).du = s.du ∧ (s.setTables st t).ps = s.ps ∧
    (s.setTables st t).tc = s.tc ∧ (s.setTables st t).scF = s.scF ∧ (s.setTables st t).scP = s.scP ∧
    (s.setTables st t).fsc = s.fsc ∧ (s.setTables st t).tcu = s.tcu ∧ (s.setTables st t).tkc = s.tkc ∧
    (s.setTables st t).lsA = s.lsA ∧ (s.setTables st t).lsB = s.lsB ∧ (s.setTables st t).dram = s.dram ∧
    (s.setTables st t).wordErrors = s.wordErrors ∧ (s.setTables st t).freeTick = s.freeTick ∧
    (s.setTables st t).pending = s.pending := by
  unfold State.setTables; split <;> simp

@[simp] theorem State.setCtx_frame (s : State) (st : Stream) (c : Ctx) :
    (s.setCtx st c).ti = s.ti ∧ (s.setCtx st c).du = s.du ∧ (s.setCtx st c).prs = s.prs ∧
    (s.setCtx st c).ps = s.ps ∧ (s.setCtx st c).tc = s.tc ∧ (s.setCtx st c).fsc = s.fsc ∧
    (s.setCtx st c).tcu = s.tcu ∧ (s.setCtx st c).tkc = s.tkc ∧ (s.setCtx st c).lsA = s.lsA ∧
    (s.setCtx st c).lsB = s.lsB ∧ (s.setCtx st c).dram = s.dram ∧ (s.setCtx st c).wordErrors = s.wordErrors ∧
    (s.setCtx st c).freeTick = s.freeTick ∧ (s.setCtx st c).pending = s.pending := by
  unfold State.setCtx; split <;> simp

@[simp] theorem State.setWs_frame (s : State) (st : Stream) (w : WorkingSet) :
    (s.setWs st w).ti = s.ti ∧ (s.setWs st w).du = s.du ∧ (s.setWs st w).prs = s.prs ∧ (s.setWs st w).ps = s.ps ∧
    (s.setWs st w).fsc = s.fsc ∧ (s.setWs st w).tcu = s.tcu ∧ (s.setWs st w).tkc = s.tkc ∧
    (s.setWs st w).lsA = s.lsA ∧ (s.setWs st w).lsB = s.lsB ∧ (s.setWs st w).dram = s.dram ∧
    (s.setWs st w).wordErrors = s.wordErrors ∧ (s.setWs st w).freeTick = s.freeTick ∧
    (s.setWs st w).pending = s.pending := by
  unfold State.setWs; split <;> simp

@[simp] theorem State.setRingState_frame (s : State) (st : Stream) (r : RingState) :
    (s.setRingState st r).ti = s.ti ∧ (s.setRingState st r).du = s.du ∧ (s.setRingState st r).prs = s.prs ∧
    (s.setRingState st r).ps = s.ps ∧ (s.setRingState st r).tc = s.tc ∧ (s.setRingState st r).scF = s.scF ∧
    (s.setRingState st r).scP = s.scP ∧ (s.setRingState st r).tcu = s.tcu ∧ (s.setRingState st r).tkc = s.tkc ∧
    (s.setRingState st r).lsA = s.lsA ∧ (s.setRingState st r).lsB = s.lsB ∧ (s.setRingState st r).dram = s.dram ∧
    (s.setRingState st r).wordErrors = s.wordErrors ∧ (s.setRingState st r).freeTick = s.freeTick ∧
    (s.setRingState st r).pending = s.pending := by
  unfold State.setRingState; split <;> simp

@[simp] theorem State.setLane_frame (s : State) (l : LaneId) (x : LaneSender) :
    (s.setLane l x).ti = s.ti ∧ (s.setLane l x).du = s.du ∧ (s.setLane l x).prs = s.prs ∧
    (s.setLane l x).ps = s.ps ∧ (s.setLane l x).tc = s.tc ∧ (s.setLane l x).scF = s.scF ∧
    (s.setLane l x).scP = s.scP ∧ (s.setLane l x).fsc = s.fsc ∧ (s.setLane l x).tcu = s.tcu ∧
    (s.setLane l x).tkc = s.tkc ∧ (s.setLane l x).dram = s.dram ∧ (s.setLane l x).wordErrors = s.wordErrors ∧
    (s.setLane l x).freeTick = s.freeTick ∧ (s.setLane l x).pending = s.pending := by
  unfold State.setLane; split <;> simp

@[simp] theorem State.setHold_frame (s : State) (l : LaneId) (x : List Item) :
    (s.setHold l x).ti = s.ti ∧ (s.setHold l x).du = s.du ∧ (s.setHold l x).prs = s.prs ∧
    (s.setHold l x).ps = s.ps ∧ (s.setHold l x).tc = s.tc ∧ (s.setHold l x).scF = s.scF ∧
    (s.setHold l x).scP = s.scP ∧ (s.setHold l x).fsc = s.fsc ∧ (s.setHold l x).tcu = s.tcu ∧
    (s.setHold l x).lsA = s.lsA ∧ (s.setHold l x).lsB = s.lsB ∧ (s.setHold l x).dram = s.dram ∧
    (s.setHold l x).wordErrors = s.wordErrors ∧ (s.setHold l x).freeTick = s.freeTick ∧
    (s.setHold l x).pending = s.pending := by
  unfold State.setHold; split <;> simp

@[simp] theorem State.editRecord_frame (s : State) (source : Nat) (f : PicRecord → PicRecord) :
    (s.editRecord source f).du = s.du ∧ (s.editRecord source f).prs = s.prs ∧ (s.editRecord source f).ps = s.ps ∧
    (s.editRecord source f).tc = s.tc ∧ (s.editRecord source f).scF = s.scF ∧ (s.editRecord source f).scP = s.scP ∧
    (s.editRecord source f).fsc = s.fsc ∧ (s.editRecord source f).tcu = s.tcu ∧
    (s.editRecord source f).tkc = s.tkc ∧ (s.editRecord source f).lsA = s.lsA ∧
    (s.editRecord source f).lsB = s.lsB ∧ (s.editRecord source f).dram = s.dram ∧
    (s.editRecord source f).wordErrors = s.wordErrors ∧ (s.editRecord source f).freeTick = s.freeTick ∧
    (s.editRecord source f).pending = s.pending := by
  simp [State.editRecord]

@[simp] theorem State.editEntry_frame (s : State) (st : Stream) (source : Nat) (f : DirEntry → DirEntry) :
    (s.editEntry st source f).ti = s.ti ∧ (s.editEntry st source f).du = s.du ∧
    (s.editEntry st source f).prs = s.prs ∧ (s.editEntry st source f).ps = s.ps ∧
    (s.editEntry st source f).tc = s.tc ∧ (s.editEntry st source f).scF = s.scF ∧
    (s.editEntry st source f).scP = s.scP ∧ (s.editEntry st source f).tcu = s.tcu ∧
    (s.editEntry st source f).tkc = s.tkc ∧ (s.editEntry st source f).lsA = s.lsA ∧
    (s.editEntry st source f).lsB = s.lsB ∧ (s.editEntry st source f).dram = s.dram ∧
    (s.editEntry st source f).wordErrors = s.wordErrors ∧ (s.editEntry st source f).freeTick = s.freeTick ∧
    (s.editEntry st source f).pending = s.pending := by
  simp [State.editEntry]

@[simp] theorem State.report_frame (s : State) (l : LaneId) (r : Report) :
    (s.report l r).ti = s.ti ∧ (s.report l r).du = s.du ∧ (s.report l r).prs = s.prs ∧ (s.report l r).ps = s.ps ∧
    (s.report l r).tc = s.tc ∧ (s.report l r).scF = s.scF ∧ (s.report l r).scP = s.scP ∧
    (s.report l r).fsc = s.fsc ∧ (s.report l r).tcu = s.tcu ∧ (s.report l r).tkc = s.tkc ∧
    (s.report l r).dram = s.dram ∧ (s.report l r).wordErrors = s.wordErrors ∧
    (s.report l r).freeTick = s.freeTick ∧ (s.report l r).pending = s.pending := by
  simp [State.report]

@[simp] theorem State.notify_frame (s : State) (n : Notice) :
    (s.notify n).ti = s.ti ∧ (s.notify n).du = s.du ∧ (s.notify n).prs = s.prs ∧ (s.notify n).ps = s.ps ∧
    (s.notify n).tc = s.tc ∧ (s.notify n).scF = s.scF ∧ (s.notify n).scP = s.scP ∧ (s.notify n).fsc = s.fsc ∧
    (s.notify n).tcu = s.tcu ∧ (s.notify n).tkc = s.tkc ∧ (s.notify n).dram = s.dram ∧
    (s.notify n).wordErrors = s.wordErrors ∧ (s.notify n).freeTick = s.freeTick ∧
    (s.notify n).pending = s.pending := by
  simp [State.notify]

@[simp] theorem State.reply_frame (s : State) (cls : SourceClass) (code tag : Byte) (rc : ReplyCode) (data : ReplyData) :
    (s.reply cls code tag rc data).ti = s.ti ∧ (s.reply cls code tag rc data).du = s.du ∧
    (s.reply cls code tag rc data).prs = s.prs ∧ (s.reply cls code tag rc data).ps = s.ps ∧
    (s.reply cls code tag rc data).tc = s.tc ∧ (s.reply cls code tag rc data).scF = s.scF ∧
    (s.reply cls code tag rc data).scP = s.scP ∧ (s.reply cls code tag rc data).fsc = s.fsc ∧
    (s.reply cls code tag rc data).tcu = s.tcu ∧ (s.reply cls code tag rc data).tkc = s.tkc ∧
    (s.reply cls code tag rc data).dram = s.dram ∧ (s.reply cls code tag rc data).wordErrors = s.wordErrors ∧
    (s.reply cls code tag rc data).freeTick = s.freeTick ∧ (s.reply cls code tag rc data).pending = s.pending := by
  simp [State.reply]

@[simp] theorem State.countRead_frame (s : State) (r : Ring) (e : DirEntry) (i : Nat) :
    (s.countRead r e i).ti = s.ti ∧ (s.countRead r e i).du = s.du ∧ (s.countRead r e i).prs = s.prs ∧
    (s.countRead r e i).ps = s.ps ∧ (s.countRead r e i).tc = s.tc ∧ (s.countRead r e i).scF = s.scF ∧
    (s.countRead r e i).scP = s.scP ∧ (s.countRead r e i).tcu = s.tcu ∧ (s.countRead r e i).tkc = s.tkc ∧
    (s.countRead r e i).lsA = s.lsA ∧ (s.countRead r e i).lsB = s.lsB ∧ (s.countRead r e i).dram = s.dram ∧
    (s.countRead r e i).pending = s.pending := by
  simp [State.countRead]

@[simp] theorem State.raiseFault_frame (s : State) (l : LaneId) (st : Stream) (k : FaultRecord) :
    (s.raiseFault l st k).ti = s.ti ∧ (s.raiseFault l st k).du = s.du ∧ (s.raiseFault l st k).prs = s.prs ∧
    (s.raiseFault l st k).ps = s.ps ∧ (s.raiseFault l st k).tc = s.tc ∧ (s.raiseFault l st k).scF = s.scF ∧
    (s.raiseFault l st k).scP = s.scP ∧ (s.raiseFault l st k).tcu = s.tcu ∧ (s.raiseFault l st k).tkc = s.tkc ∧
    (s.raiseFault l st k).dram = s.dram ∧ (s.raiseFault l st k).wordErrors = s.wordErrors ∧
    (s.raiseFault l st k).freeTick = s.freeTick ∧ (s.raiseFault l st k).pending = s.pending := by
  simp [State.raiseFault]

@[simp] theorem State.ordinaryRelease_frame (s : State) (st : Stream) :
    (s.ordinaryRelease st).ti = s.ti ∧ (s.ordinaryRelease st).du = s.du ∧ (s.ordinaryRelease st).prs = s.prs ∧
    (s.ordinaryRelease st).ps = s.ps ∧ (s.ordinaryRelease st).tc = s.tc ∧ (s.ordinaryRelease st).scF = s.scF ∧
    (s.ordinaryRelease st).scP = s.scP ∧ (s.ordinaryRelease st).tcu = s.tcu ∧ (s.ordinaryRelease st).tkc = s.tkc ∧
    (s.ordinaryRelease st).lsA = s.lsA ∧ (s.ordinaryRelease st).lsB = s.lsB ∧
    (s.ordinaryRelease st).dram = s.dram ∧ (s.ordinaryRelease st).wordErrors = s.wordErrors ∧
    (s.ordinaryRelease st).freeTick = s.freeTick ∧ (s.ordinaryRelease st).pending = s.pending := by
  simp only [State.ordinaryRelease]; (repeat' split) <;> simp

@[simp] theorem State.discardUnit_frame (s : State) (st : Stream) :
    (s.discardUnit st).ti = s.ti ∧ (s.discardUnit st).du = s.du ∧ (s.discardUnit st).prs = s.prs ∧
    (s.discardUnit st).ps = s.ps ∧ (s.discardUnit st).tc = s.tc ∧ (s.discardUnit st).scF = s.scF ∧
    (s.discardUnit st).scP = s.scP ∧ (s.discardUnit st).tcu = s.tcu ∧ (s.discardUnit st).tkc = s.tkc ∧
    (s.discardUnit st).lsA = s.lsA ∧ (s.discardUnit st).lsB = s.lsB ∧ (s.discardUnit st).dram = s.dram ∧
    (s.discardUnit st).wordErrors = s.wordErrors ∧ (s.discardUnit st).freeTick = s.freeTick ∧
    (s.discardUnit st).pending = s.pending := by
  simp only [State.discardUnit]; (repeat' split) <;> simp

@[simp] theorem State.startSegment_frame (s : State) (l : LaneId) (st : Stream) (source : Nat) :
    (s.startSegment l st source).ti = s.ti ∧ (s.startSegment l st source).du = s.du ∧
    (s.startSegment l st source).prs = s.prs ∧ (s.startSegment l st source).ps = s.ps ∧
    (s.startSegment l st source).tc = s.tc ∧ (s.startSegment l st source).scF = s.scF ∧
    (s.startSegment l st source).scP = s.scP ∧ (s.startSegment l st source).tcu = s.tcu ∧
    (s.startSegment l st source).tkc = s.tkc ∧ (s.startSegment l st source).dram = s.dram ∧
    (s.startSegment l st source).pending = s.pending := by
  simp only [State.startSegment]; (repeat' split) <;> simp

@[simp] theorem State.choose_frame (s : State) (l : LaneId) :
    (s.choose l).ti = s.ti ∧ (s.choose l).du = s.du ∧ (s.choose l).prs = s.prs ∧ (s.choose l).ps = s.ps ∧
    (s.choose l).tc = s.tc ∧ (s.choose l).scF = s.scF ∧ (s.choose l).scP = s.scP ∧ (s.choose l).tcu = s.tcu ∧
    (s.choose l).tkc = s.tkc ∧ (s.choose l).dram = s.dram ∧ (s.choose l).pending = s.pending := by
  unfold State.choose; (repeat' split) <;> simp

@[simp] theorem State.chooseIfHeadChanged_frame (s : State) (l : LaneId) (before : Option Item) :
    (s.chooseIfHeadChanged l before).ti = s.ti ∧ (s.chooseIfHeadChanged l before).du = s.du ∧
    (s.chooseIfHeadChanged l before).prs = s.prs ∧ (s.chooseIfHeadChanged l before).ps = s.ps ∧
    (s.chooseIfHeadChanged l before).tc = s.tc ∧ (s.chooseIfHeadChanged l before).scF = s.scF ∧
    (s.chooseIfHeadChanged l before).scP = s.scP ∧ (s.chooseIfHeadChanged l before).tcu = s.tcu ∧
    (s.chooseIfHeadChanged l before).tkc = s.tkc ∧ (s.chooseIfHeadChanged l before).dram = s.dram ∧
    (s.chooseIfHeadChanged l before).pending = s.pending := by
  unfold State.chooseIfHeadChanged; split <;> simp

@[simp] theorem State.clearNeeds_frame (s : State) (l : LaneId) (x0 : List Item) :
    (s.clearNeeds l x0).ti = s.ti ∧ (s.clearNeeds l x0).du = s.du ∧ (s.clearNeeds l x0).prs = s.prs ∧
    (s.clearNeeds l x0).ps = s.ps ∧ (s.clearNeeds l x0).tc = s.tc ∧ (s.clearNeeds l x0).scF = s.scF ∧
    (s.clearNeeds l x0).scP = s.scP ∧ (s.clearNeeds l x0).tcu = s.tcu ∧ (s.clearNeeds l x0).tkc = s.tkc ∧
    (s.clearNeeds l x0).lsA = s.lsA ∧ (s.clearNeeds l x0).lsB = s.lsB ∧ (s.clearNeeds l x0).dram = s.dram ∧
    (s.clearNeeds l x0).wordErrors = s.wordErrors ∧ (s.clearNeeds l x0).freeTick = s.freeTick ∧
    (s.clearNeeds l x0).pending = s.pending := by
  induction x0 generalizing s with
  | nil => simp [State.clearNeeds]
  | cons a l ih => cases a <;> simp [State.clearNeeds, ih]

@[simp] theorem State.backlogTest_frame (s : State) :
    (s.backlogTest).ti = s.ti ∧ (s.backlogTest).du = s.du ∧ (s.backlogTest).prs = s.prs ∧
    (s.backlogTest).ps = s.ps ∧ (s.backlogTest).tc = s.tc ∧ (s.backlogTest).scF = s.scF ∧
    (s.backlogTest).scP = s.scP ∧ (s.backlogTest).tcu = s.tcu ∧ (s.backlogTest).tkc = s.tkc ∧
    (s.backlogTest).dram = s.dram ∧ (s.backlogTest).pending = s.pending := by
  simp only [State.backlogTest]; (repeat' split) <;> simp

@[simp] theorem State.pushItem_frame (s : State) (l : LaneId) (i : Item) :
    (s.pushItem l i).ti = s.ti ∧ (s.pushItem l i).du = s.du ∧ (s.pushItem l i).prs = s.prs ∧
    (s.pushItem l i).ps = s.ps ∧ (s.pushItem l i).tc = s.tc ∧ (s.pushItem l i).scF = s.scF ∧
    (s.pushItem l i).scP = s.scP ∧ (s.pushItem l i).tcu = s.tcu ∧ (s.pushItem l i).tkc = s.tkc ∧
    (s.pushItem l i).dram = s.dram ∧ (s.pushItem l i).pending = s.pending := by
  unfold State.pushItem; split <;> simp

@[simp] theorem State.pushUnit_frame (s : State) (l : LaneId) (st : Stream) (source : Nat) :
    (s.pushUnit l st source).ti = s.ti ∧ (s.pushUnit l st source).du = s.du ∧
    (s.pushUnit l st source).prs = s.prs ∧ (s.pushUnit l st source).ps = s.ps ∧
    (s.pushUnit l st source).tc = s.tc ∧ (s.pushUnit l st source).scF = s.scF ∧
    (s.pushUnit l st source).scP = s.scP ∧ (s.pushUnit l st source).tcu = s.tcu ∧
    (s.pushUnit l st source).tkc = s.tkc ∧ (s.pushUnit l st source).dram = s.dram ∧
    (s.pushUnit l st source).pending = s.pending := by
  unfold State.pushUnit; (repeat' split) <;> simp

@[simp] theorem State.pushMarker_frame (s : State) (l : LaneId) (m : Marker) :
    (s.pushMarker l m).ti = s.ti ∧ (s.pushMarker l m).du = s.du ∧ (s.pushMarker l m).prs = s.prs ∧
    (s.pushMarker l m).ps = s.ps ∧ (s.pushMarker l m).tc = s.tc ∧ (s.pushMarker l m).scF = s.scF ∧
    (s.pushMarker l m).scP = s.scP ∧ (s.pushMarker l m).tcu = s.tcu ∧ (s.pushMarker l m).tkc = s.tkc ∧
    (s.pushMarker l m).dram = s.dram ∧ (s.pushMarker l m).pending = s.pending := by
  unfold State.pushMarker; (repeat' split) <;> simp

@[simp] theorem State.push_frame (s : State) (l : LaneId) (x0 : Item) :
    (s.push l x0).ti = s.ti ∧ (s.push l x0).du = s.du ∧ (s.push l x0).prs = s.prs ∧ (s.push l x0).ps = s.ps ∧
    (s.push l x0).tc = s.tc ∧ (s.push l x0).scF = s.scF ∧ (s.push l x0).scP = s.scP ∧ (s.push l x0).tcu = s.tcu ∧
    (s.push l x0).tkc = s.tkc ∧ (s.push l x0).dram = s.dram ∧ (s.push l x0).pending = s.pending := by
  unfold State.push; split <;> simp

@[simp] theorem State.pushAll_frame (s : State) (l : LaneId) (x0 : List Item) :
    (s.pushAll l x0).ti = s.ti ∧ (s.pushAll l x0).du = s.du ∧ (s.pushAll l x0).prs = s.prs ∧
    (s.pushAll l x0).ps = s.ps ∧ (s.pushAll l x0).tc = s.tc ∧ (s.pushAll l x0).scF = s.scF ∧
    (s.pushAll l x0).scP = s.scP ∧ (s.pushAll l x0).tcu = s.tcu ∧ (s.pushAll l x0).tkc = s.tkc ∧
    (s.pushAll l x0).dram = s.dram ∧ (s.pushAll l x0).pending = s.pending := by
  induction x0 generalizing s with
  | nil => simp [State.pushAll]
  | cons a l ih => simp [State.pushAll, ih]

@[simp] theorem State.ringDropB_frame (s : State) (st : Stream) (source : Nat) :
    (s.ringDropB st source).ti = s.ti ∧ (s.ringDropB st source).du = s.du ∧ (s.ringDropB st source).prs = s.prs ∧
    (s.ringDropB st source).ps = s.ps ∧ (s.ringDropB st source).tc = s.tc ∧ (s.ringDropB st source).scF = s.scF ∧
    (s.ringDropB st source).scP = s.scP ∧ (s.ringDropB st source).tcu = s.tcu ∧
    (s.ringDropB st source).tkc = s.tkc ∧ (s.ringDropB st source).dram = s.dram ∧
    (s.ringDropB st source).pending = s.pending := by
  simp [State.ringDropB]

@[simp] theorem State.takeStall_frame (s : State) (l : LaneId) :
    (s.takeStall l).ti = s.ti ∧ (s.takeStall l).du = s.du ∧ (s.takeStall l).prs = s.prs ∧
    (s.takeStall l).ps = s.ps ∧ (s.takeStall l).tc = s.tc ∧ (s.takeStall l).scF = s.scF ∧
    (s.takeStall l).scP = s.scP ∧ (s.takeStall l).fsc = s.fsc ∧ (s.takeStall l).tcu = s.tcu ∧
    (s.takeStall l).tkc = s.tkc ∧ (s.takeStall l).dram = s.dram ∧ (s.takeStall l).wordErrors = s.wordErrors ∧
    (s.takeStall l).freeTick = s.freeTick ∧ (s.takeStall l).pending = s.pending := by
  unfold State.takeStall; split <;> simp

@[simp] theorem State.countOpen_frame (s : State) (l : LaneId) :
    (s.countOpen l).ti = s.ti ∧ (s.countOpen l).du = s.du ∧ (s.countOpen l).prs = s.prs ∧
    (s.countOpen l).ps = s.ps ∧ (s.countOpen l).tc = s.tc ∧ (s.countOpen l).scF = s.scF ∧
    (s.countOpen l).scP = s.scP ∧ (s.countOpen l).fsc = s.fsc ∧ (s.countOpen l).tcu = s.tcu ∧
    (s.countOpen l).tkc = s.tkc ∧ (s.countOpen l).dram = s.dram ∧ (s.countOpen l).wordErrors = s.wordErrors ∧
    (s.countOpen l).freeTick = s.freeTick ∧ (s.countOpen l).pending = s.pending := by
  simp [State.countOpen]

@[simp] theorem State.resume_frame (s : State) (l : LaneId) :
    (s.resume l).ti = s.ti ∧ (s.resume l).du = s.du ∧ (s.resume l).prs = s.prs ∧ (s.resume l).ps = s.ps ∧
    (s.resume l).tc = s.tc ∧ (s.resume l).scF = s.scF ∧ (s.resume l).scP = s.scP ∧ (s.resume l).fsc = s.fsc ∧
    (s.resume l).tcu = s.tcu ∧ (s.resume l).tkc = s.tkc ∧ (s.resume l).dram = s.dram ∧
    (s.resume l).wordErrors = s.wordErrors ∧ (s.resume l).freeTick = s.freeTick ∧
    (s.resume l).pending = s.pending := by
  simp only [State.resume]; (repeat' split) <;> simp

@[simp] theorem State.chooseOnCredit_frame (s : State) (l : LaneId) :
    (s.chooseOnCredit l).ti = s.ti ∧ (s.chooseOnCredit l).du = s.du ∧ (s.chooseOnCredit l).prs = s.prs ∧
    (s.chooseOnCredit l).ps = s.ps ∧ (s.chooseOnCredit l).tc = s.tc ∧ (s.chooseOnCredit l).scF = s.scF ∧
    (s.chooseOnCredit l).scP = s.scP ∧ (s.chooseOnCredit l).tcu = s.tcu ∧ (s.chooseOnCredit l).tkc = s.tkc ∧
    (s.chooseOnCredit l).dram = s.dram ∧ (s.chooseOnCredit l).pending = s.pending := by
  unfold State.chooseOnCredit; split <;> simp

@[simp] theorem State.creditPulse_frame (s : State) (l : LaneId) :
    (s.creditPulse l).ti = s.ti ∧ (s.creditPulse l).du = s.du ∧ (s.creditPulse l).prs = s.prs ∧
    (s.creditPulse l).ps = s.ps ∧ (s.creditPulse l).tc = s.tc ∧ (s.creditPulse l).scF = s.scF ∧
    (s.creditPulse l).scP = s.scP ∧ (s.creditPulse l).tcu = s.tcu ∧ (s.creditPulse l).tkc = s.tkc ∧
    (s.creditPulse l).dram = s.dram ∧ (s.creditPulse l).pending = s.pending := by
  simp [State.creditPulse]

@[simp] theorem State.unitSent_frame (s : State) (l : LaneId) (st : Stream) (source : Nat) :
    (s.unitSent l st source).ti = s.ti ∧ (s.unitSent l st source).du = s.du ∧
    (s.unitSent l st source).prs = s.prs ∧ (s.unitSent l st source).ps = s.ps ∧
    (s.unitSent l st source).tc = s.tc ∧ (s.unitSent l st source).scF = s.scF ∧
    (s.unitSent l st source).scP = s.scP ∧ (s.unitSent l st source).tcu = s.tcu ∧
    (s.unitSent l st source).tkc = s.tkc ∧ (s.unitSent l st source).dram = s.dram ∧
    (s.unitSent l st source).wordErrors = s.wordErrors ∧ (s.unitSent l st source).freeTick = s.freeTick ∧
    (s.unitSent l st source).pending = s.pending := by
  simp [State.unitSent]

@[simp] theorem State.segmentSent_frame (s : State) (l : LaneId) (g : Segment) :
    (s.segmentSent l g).ti = s.ti ∧ (s.segmentSent l g).du = s.du ∧ (s.segmentSent l g).prs = s.prs ∧
    (s.segmentSent l g).ps = s.ps ∧ (s.segmentSent l g).tc = s.tc ∧ (s.segmentSent l g).scF = s.scF ∧
    (s.segmentSent l g).scP = s.scP ∧ (s.segmentSent l g).tcu = s.tcu ∧ (s.segmentSent l g).tkc = s.tkc ∧
    (s.segmentSent l g).dram = s.dram ∧ (s.segmentSent l g).wordErrors = s.wordErrors ∧
    (s.segmentSent l g).freeTick = s.freeTick ∧ (s.segmentSent l g).pending = s.pending := by
  unfold State.segmentSent; split <;> simp

@[simp] theorem State.packetEnded_frame (s : State) (l : LaneId) (x0 : Packet) :
    (s.packetEnded l x0).ti = s.ti ∧ (s.packetEnded l x0).du = s.du ∧ (s.packetEnded l x0).prs = s.prs ∧
    (s.packetEnded l x0).ps = s.ps ∧ (s.packetEnded l x0).tc = s.tc ∧ (s.packetEnded l x0).scF = s.scF ∧
    (s.packetEnded l x0).scP = s.scP ∧ (s.packetEnded l x0).tcu = s.tcu ∧ (s.packetEnded l x0).tkc = s.tkc ∧
    (s.packetEnded l x0).dram = s.dram ∧ (s.packetEnded l x0).wordErrors = s.wordErrors ∧
    (s.packetEnded l x0).freeTick = s.freeTick ∧ (s.packetEnded l x0).pending = s.pending := by
  unfold State.packetEnded; split <;> simp

@[simp] theorem State.finishPacket_frame (s : State) (l : LaneId) :
    (s.finishPacket l).ti = s.ti ∧ (s.finishPacket l).du = s.du ∧ (s.finishPacket l).prs = s.prs ∧
    (s.finishPacket l).ps = s.ps ∧ (s.finishPacket l).tc = s.tc ∧ (s.finishPacket l).scF = s.scF ∧
    (s.finishPacket l).scP = s.scP ∧ (s.finishPacket l).tcu = s.tcu ∧ (s.finishPacket l).tkc = s.tkc ∧
    (s.finishPacket l).dram = s.dram ∧ (s.finishPacket l).wordErrors = s.wordErrors ∧
    (s.finishPacket l).freeTick = s.freeTick ∧ (s.finishPacket l).pending = s.pending := by
  unfold State.finishPacket; split <;> simp

@[simp] theorem State.packetSent_frame (s : State) (l : LaneId) :
    (s.packetSent l).ti = s.ti ∧ (s.packetSent l).du = s.du ∧ (s.packetSent l).prs = s.prs ∧
    (s.packetSent l).ps = s.ps ∧ (s.packetSent l).tc = s.tc ∧ (s.packetSent l).scF = s.scF ∧
    (s.packetSent l).scP = s.scP ∧ (s.packetSent l).tcu = s.tcu ∧ (s.packetSent l).tkc = s.tkc ∧
    (s.packetSent l).dram = s.dram ∧ (s.packetSent l).pending = s.pending := by
  unfold State.packetSent; split <;> simp

@[simp] theorem State.resetLane_frame (s : State) (l : LaneId) :
    (s.resetLane l).ti = s.ti ∧ (s.resetLane l).du = s.du ∧ (s.resetLane l).prs = s.prs ∧
    (s.resetLane l).ps = s.ps ∧ (s.resetLane l).tc = s.tc ∧ (s.resetLane l).scF = s.scF ∧
    (s.resetLane l).scP = s.scP ∧ (s.resetLane l).tcu = s.tcu ∧ (s.resetLane l).tkc = s.tkc ∧
    (s.resetLane l).dram = s.dram ∧ (s.resetLane l).wordErrors = s.wordErrors ∧
    (s.resetLane l).freeTick = s.freeTick ∧ (s.resetLane l).pending = s.pending := by
  simp [State.resetLane]

@[simp] theorem State.popDirective_frame (s : State) :
    (s.popDirective).ti = s.ti ∧ (s.popDirective).prs = s.prs ∧ (s.popDirective).ps = s.ps ∧
    (s.popDirective).tc = s.tc ∧ (s.popDirective).scF = s.scF ∧ (s.popDirective).scP = s.scP ∧
    (s.popDirective).fsc = s.fsc ∧ (s.popDirective).tcu = s.tcu ∧ (s.popDirective).tkc = s.tkc ∧
    (s.popDirective).lsA = s.lsA ∧ (s.popDirective).lsB = s.lsB ∧ (s.popDirective).dram = s.dram ∧
    (s.popDirective).wordErrors = s.wordErrors ∧ (s.popDirective).freeTick = s.freeTick ∧
    (s.popDirective).pending = s.pending := by
  simp [State.popDirective]

@[simp] theorem State.countTaken_frame (s : State) (k : DirKind) :
    (s.countTaken k).ti = s.ti ∧ (s.countTaken k).prs = s.prs ∧ (s.countTaken k).ps = s.ps ∧
    (s.countTaken k).tc = s.tc ∧ (s.countTaken k).scF = s.scF ∧ (s.countTaken k).scP = s.scP ∧
    (s.countTaken k).fsc = s.fsc ∧ (s.countTaken k).tcu = s.tcu ∧ (s.countTaken k).tkc = s.tkc ∧
    (s.countTaken k).lsA = s.lsA ∧ (s.countTaken k).lsB = s.lsB ∧ (s.countTaken k).dram = s.dram ∧
    (s.countTaken k).wordErrors = s.wordErrors ∧ (s.countTaken k).freeTick = s.freeTick ∧
    (s.countTaken k).pending = s.pending := by
  simp [State.countTaken]

@[simp] theorem State.countRefusal_frame (s : State) (c : ReplyCode) :
    (s.countRefusal c).ti = s.ti ∧ (s.countRefusal c).prs = s.prs ∧ (s.countRefusal c).ps = s.ps ∧
    (s.countRefusal c).tc = s.tc ∧ (s.countRefusal c).scF = s.scF ∧ (s.countRefusal c).scP = s.scP ∧
    (s.countRefusal c).fsc = s.fsc ∧ (s.countRefusal c).tcu = s.tcu ∧ (s.countRefusal c).tkc = s.tkc ∧
    (s.countRefusal c).lsA = s.lsA ∧ (s.countRefusal c).lsB = s.lsB ∧ (s.countRefusal c).dram = s.dram ∧
    (s.countRefusal c).wordErrors = s.wordErrors ∧ (s.countRefusal c).freeTick = s.freeTick ∧
    (s.countRefusal c).pending = s.pending := by
  simp [State.countRefusal]

@[simp] theorem State.answer_frame (s : State) (d : Directive) (rc : ReplyCode) (data : ReplyData) :
    (s.answer d rc data).ti = s.ti ∧ (s.answer d rc data).prs = s.prs ∧ (s.answer d rc data).ps = s.ps ∧
    (s.answer d rc data).tc = s.tc ∧ (s.answer d rc data).scF = s.scF ∧ (s.answer d rc data).scP = s.scP ∧
    (s.answer d rc data).fsc = s.fsc ∧ (s.answer d rc data).tcu = s.tcu ∧ (s.answer d rc data).tkc = s.tkc ∧
    (s.answer d rc data).dram = s.dram ∧ (s.answer d rc data).wordErrors = s.wordErrors ∧
    (s.answer d rc data).freeTick = s.freeTick ∧ (s.answer d rc data).pending = s.pending := by
  simp [State.answer]

@[simp] theorem State.receiveDirective_frame (s : State) (d : Directive) :
    (s.receiveDirective d).ti = s.ti ∧ (s.receiveDirective d).prs = s.prs ∧ (s.receiveDirective d).ps = s.ps ∧
    (s.receiveDirective d).tc = s.tc ∧ (s.receiveDirective d).scF = s.scF ∧ (s.receiveDirective d).scP = s.scP ∧
    (s.receiveDirective d).fsc = s.fsc ∧ (s.receiveDirective d).tcu = s.tcu ∧ (s.receiveDirective d).tkc = s.tkc ∧
    (s.receiveDirective d).dram = s.dram ∧ (s.receiveDirective d).wordErrors = s.wordErrors ∧
    (s.receiveDirective d).freeTick = s.freeTick ∧ (s.receiveDirective d).pending = s.pending := by
  unfold State.receiveDirective; split <;> simp

end Sys2Proof.Machine
end

