-- ==== Sys2Proof/Laws/FramesTakes.lean ====
section
/-! SUPPORT. What each operation of Labels, Takes, Scaler and Timecode leaves unchanged, one lemma per operation. -/

namespace Sys2Proof.Machine

@[simp] theorem State.advanceRecordRun_frame (s : State) :
    (s.advanceRecordRun).ti = s.ti ∧ (s.advanceRecordRun).du = s.du ∧ (s.advanceRecordRun).prs = s.prs ∧
    (s.advanceRecordRun).ps = s.ps ∧ (s.advanceRecordRun).tc = s.tc ∧ (s.advanceRecordRun).scF = s.scF ∧
    (s.advanceRecordRun).scP = s.scP ∧ (s.advanceRecordRun).fsc = s.fsc ∧ (s.advanceRecordRun).tkc = s.tkc ∧
    (s.advanceRecordRun).lsA = s.lsA ∧ (s.advanceRecordRun).lsB = s.lsB ∧ (s.advanceRecordRun).dram = s.dram ∧
    (s.advanceRecordRun).wordErrors = s.wordErrors ∧ (s.advanceRecordRun).freeTick = s.freeTick ∧
    (s.advanceRecordRun).pending = s.pending := by
  simp [State.advanceRecordRun]

@[simp] theorem State.editTake_frame (s : State) (n : Nat) (f : TakeRec → TakeRec) :
    (s.editTake n f).ti = s.ti ∧ (s.editTake n f).du = s.du ∧ (s.editTake n f).prs = s.prs ∧
    (s.editTake n f).ps = s.ps ∧ (s.editTake n f).tc = s.tc ∧ (s.editTake n f).scF = s.scF ∧
    (s.editTake n f).scP = s.scP ∧ (s.editTake n f).fsc = s.fsc ∧ (s.editTake n f).tcu = s.tcu ∧
    (s.editTake n f).lsA = s.lsA ∧ (s.editTake n f).lsB = s.lsB ∧ (s.editTake n f).dram = s.dram ∧
    (s.editTake n f).wordErrors = s.wordErrors ∧ (s.editTake n f).freeTick = s.freeTick ∧
    (s.editTake n f).pending = s.pending := by
  simp [State.editTake]

@[simp] theorem State.handItem_frame (s : State) (l : LaneId) (take : Option Nat) (i : Item) :
    (s.handItem l take i).ti = s.ti ∧ (s.handItem l take i).du = s.du ∧ (s.handItem l take i).prs = s.prs ∧
    (s.handItem l take i).ps = s.ps ∧ (s.handItem l take i).tc = s.tc ∧ (s.handItem l take i).scF = s.scF ∧
    (s.handItem l take i).scP = s.scP ∧ (s.handItem l take i).tcu = s.tcu ∧ (s.handItem l take i).dram = s.dram ∧
    (s.handItem l take i).pending = s.pending := by
  unfold State.handItem; (repeat' split) <;> simp

@[simp] theorem State.enterClosing_frame (s : State) (t : TakeRec) :
    (s.enterClosing t).ti = s.ti ∧ (s.enterClosing t).du = s.du ∧ (s.enterClosing t).prs = s.prs ∧
    (s.enterClosing t).ps = s.ps ∧ (s.enterClosing t).tc = s.tc ∧ (s.enterClosing t).scF = s.scF ∧
    (s.enterClosing t).scP = s.scP ∧ (s.enterClosing t).fsc = s.fsc ∧ (s.enterClosing t).tcu = s.tcu ∧
    (s.enterClosing t).lsA = s.lsA ∧ (s.enterClosing t).lsB = s.lsB ∧ (s.enterClosing t).dram = s.dram ∧
    (s.enterClosing t).wordErrors = s.wordErrors ∧ (s.enterClosing t).freeTick = s.freeTick ∧
    (s.enterClosing t).pending = s.pending := by
  simp [State.enterClosing]

@[simp] theorem State.releaseHold_frame (s : State) (l : LaneId) :
    (s.releaseHold l).ti = s.ti ∧ (s.releaseHold l).du = s.du ∧ (s.releaseHold l).prs = s.prs ∧
    (s.releaseHold l).ps = s.ps ∧ (s.releaseHold l).tc = s.tc ∧ (s.releaseHold l).scF = s.scF ∧
    (s.releaseHold l).scP = s.scP ∧ (s.releaseHold l).tcu = s.tcu ∧ (s.releaseHold l).dram = s.dram ∧
    (s.releaseHold l).pending = s.pending := by
  simp [State.releaseHold]

@[simp] theorem State.closeOnLane_frame (s : State) (t : TakeRec) (l : LaneId) :
    (s.closeOnLane t l).ti = s.ti ∧ (s.closeOnLane t l).du = s.du ∧ (s.closeOnLane t l).prs = s.prs ∧
    (s.closeOnLane t l).ps = s.ps ∧ (s.closeOnLane t l).tc = s.tc ∧ (s.closeOnLane t l).scF = s.scF ∧
    (s.closeOnLane t l).scP = s.scP ∧ (s.closeOnLane t l).tcu = s.tcu ∧ (s.closeOnLane t l).dram = s.dram ∧
    (s.closeOnLane t l).pending = s.pending := by
  unfold State.closeOnLane; split <;> simp

@[simp] theorem State.promote_frame (s : State) :
    (s.promote).ti = s.ti ∧ (s.promote).du = s.du ∧ (s.promote).prs = s.prs ∧ (s.promote).ps = s.ps ∧
    (s.promote).tc = s.tc ∧ (s.promote).scF = s.scF ∧ (s.promote).scP = s.scP ∧ (s.promote).fsc = s.fsc ∧
    (s.promote).tcu = s.tcu ∧ (s.promote).lsA = s.lsA ∧ (s.promote).lsB = s.lsB ∧ (s.promote).dram = s.dram ∧
    (s.promote).wordErrors = s.wordErrors ∧ (s.promote).freeTick = s.freeTick ∧ (s.promote).pending = s.pending := by
  unfold State.promote; (repeat' split) <;> simp

@[simp] theorem State.closeTake_frame (s : State) (t : TakeRec) :
    (s.closeTake t).ti = s.ti ∧ (s.closeTake t).du = s.du ∧ (s.closeTake t).prs = s.prs ∧
    (s.closeTake t).ps = s.ps ∧ (s.closeTake t).tc = s.tc ∧ (s.closeTake t).scF = s.scF ∧
    (s.closeTake t).scP = s.scP ∧ (s.closeTake t).tcu = s.tcu ∧ (s.closeTake t).dram = s.dram ∧
    (s.closeTake t).pending = s.pending := by
  simp [State.closeTake]

@[simp] theorem State.closeIfDone_frame (s : State) :
    (s.closeIfDone).ti = s.ti ∧ (s.closeIfDone).du = s.du ∧ (s.closeIfDone).prs = s.prs ∧
    (s.closeIfDone).ps = s.ps ∧ (s.closeIfDone).tc = s.tc ∧ (s.closeIfDone).scF = s.scF ∧
    (s.closeIfDone).scP = s.scP ∧ (s.closeIfDone).tcu = s.tcu ∧ (s.closeIfDone).dram = s.dram ∧
    (s.closeIfDone).pending = s.pending := by
  unfold State.closeIfDone; (repeat' split) <;> simp

@[simp] theorem State.testClosing_frame (s : State) :
    (s.testClosing).ti = s.ti ∧ (s.testClosing).du = s.du ∧ (s.testClosing).prs = s.prs ∧
    (s.testClosing).ps = s.ps ∧ (s.testClosing).tc = s.tc ∧ (s.testClosing).scF = s.scF ∧
    (s.testClosing).scP = s.scP ∧ (s.testClosing).tcu = s.tcu ∧ (s.testClosing).dram = s.dram ∧
    (s.testClosing).pending = s.pending := by
  simp [State.testClosing]

@[simp] theorem State.handUnit_frame (s : State) (st : Stream) (source : Nat) (toA toB : Bool) (take : Option Nat) :
    (s.handUnit st source toA toB take).ti = s.ti ∧ (s.handUnit st source toA toB take).du = s.du ∧
    (s.handUnit st source toA toB take).prs = s.prs ∧ (s.handUnit st source toA toB take).ps = s.ps ∧
    (s.handUnit st source toA toB take).tc = s.tc ∧ (s.handUnit st source toA toB take).scF = s.scF ∧
    (s.handUnit st source toA toB take).scP = s.scP ∧ (s.handUnit st source toA toB take).tcu = s.tcu ∧
    (s.handUnit st source toA toB take).dram = s.dram ∧ (s.handUnit st source toA toB take).pending = s.pending := by
  unfold State.handUnit; (repeat' split) <;> simp

@[simp] theorem State.removeFinished_frame (s : State) (source : Nat) :
    (s.removeFinished source).du = s.du ∧ (s.removeFinished source).prs = s.prs ∧
    (s.removeFinished source).ps = s.ps ∧ (s.removeFinished source).tc = s.tc ∧
    (s.removeFinished source).scF = s.scF ∧ (s.removeFinished source).scP = s.scP ∧
    (s.removeFinished source).fsc = s.fsc ∧ (s.removeFinished source).tcu = s.tcu ∧
    (s.removeFinished source).tkc = s.tkc ∧ (s.removeFinished source).lsA = s.lsA ∧
    (s.removeFinished source).lsB = s.lsB ∧ (s.removeFinished source).dram = s.dram ∧
    (s.removeFinished source).wordErrors = s.wordErrors ∧ (s.removeFinished source).freeTick = s.freeTick ∧
    (s.removeFinished source).pending = s.pending := by
  simp [State.removeFinished]

@[simp] theorem State.addGap_frame (s : State) (n : Nat) :
    (s.addGap n).ti = s.ti ∧ (s.addGap n).du = s.du ∧ (s.addGap n).prs = s.prs ∧ (s.addGap n).ps = s.ps ∧
    (s.addGap n).tc = s.tc ∧ (s.addGap n).scF = s.scF ∧ (s.addGap n).scP = s.scP ∧ (s.addGap n).fsc = s.fsc ∧
    (s.addGap n).tcu = s.tcu ∧ (s.addGap n).lsA = s.lsA ∧ (s.addGap n).lsB = s.lsB ∧ (s.addGap n).dram = s.dram ∧
    (s.addGap n).wordErrors = s.wordErrors ∧ (s.addGap n).freeTick = s.freeTick ∧
    (s.addGap n).pending = s.pending := by
  simp [State.addGap]

@[simp] theorem State.finish_frame (s : State) (st : Stream) (source : Nat) (x : StreamState) :
    (s.finish st source x).du = s.du ∧ (s.finish st source x).prs = s.prs ∧ (s.finish st source x).ps = s.ps ∧
    (s.finish st source x).tc = s.tc ∧ (s.finish st source x).scF = s.scF ∧ (s.finish st source x).scP = s.scP ∧
    (s.finish st source x).tcu = s.tcu ∧ (s.finish st source x).dram = s.dram ∧
    (s.finish st source x).pending = s.pending := by
  unfold State.finish; (repeat' split) <;> simp

@[simp] theorem State.addProxyGap_frame (s : State) :
    (s.addProxyGap).ti = s.ti ∧ (s.addProxyGap).du = s.du ∧ (s.addProxyGap).prs = s.prs ∧
    (s.addProxyGap).ps = s.ps ∧ (s.addProxyGap).tc = s.tc ∧ (s.addProxyGap).scF = s.scF ∧
    (s.addProxyGap).fsc = s.fsc ∧ (s.addProxyGap).tcu = s.tcu ∧ (s.addProxyGap).tkc = s.tkc ∧
    (s.addProxyGap).lsA = s.lsA ∧ (s.addProxyGap).lsB = s.lsB ∧ (s.addProxyGap).dram = s.dram ∧
    (s.addProxyGap).wordErrors = s.wordErrors ∧ (s.addProxyGap).freeTick = s.freeTick ∧
    (s.addProxyGap).pending = s.pending := by
  simp [State.addProxyGap]

@[simp] theorem State.handWaiting_frame (s : State) (source : Nat) :
    (s.handWaiting source).ti = s.ti ∧ (s.handWaiting source).du = s.du ∧ (s.handWaiting source).prs = s.prs ∧
    (s.handWaiting source).ps = s.ps ∧ (s.handWaiting source).tc = s.tc ∧ (s.handWaiting source).scF = s.scF ∧
    (s.handWaiting source).scP = s.scP ∧ (s.handWaiting source).tcu = s.tcu ∧
    (s.handWaiting source).dram = s.dram ∧ (s.handWaiting source).pending = s.pending := by
  unfold State.handWaiting; split <;> simp

@[simp] theorem State.unitCompleted_frame (s : State) (e : DirEntry) (x0 : Stream) :
    (s.unitCompleted e x0).ti = s.ti ∧ (s.unitCompleted e x0).du = s.du ∧ (s.unitCompleted e x0).prs = s.prs ∧
    (s.unitCompleted e x0).ps = s.ps ∧ (s.unitCompleted e x0).tc = s.tc ∧ (s.unitCompleted e x0).scF = s.scF ∧
    (s.unitCompleted e x0).scP = s.scP ∧ (s.unitCompleted e x0).tcu = s.tcu ∧
    (s.unitCompleted e x0).dram = s.dram ∧ (s.unitCompleted e x0).pending = s.pending := by
  unfold State.unitCompleted; (repeat' split) <;> simp

@[simp] theorem State.stampPicture_frame (s : State) (source take : Nat) (rr : Option Label) :
    (s.stampPicture source take rr).du = s.du ∧ (s.stampPicture source take rr).prs = s.prs ∧
    (s.stampPicture source take rr).ps = s.ps ∧ (s.stampPicture source take rr).tc = s.tc ∧
    (s.stampPicture source take rr).scF = s.scF ∧ (s.stampPicture source take rr).scP = s.scP ∧
    (s.stampPicture source take rr).tcu = s.tcu ∧ (s.stampPicture source take rr).tkc = s.tkc ∧
    (s.stampPicture source take rr).lsA = s.lsA ∧ (s.stampPicture source take rr).lsB = s.lsB ∧
    (s.stampPicture source take rr).dram = s.dram ∧ (s.stampPicture source take rr).wordErrors = s.wordErrors ∧
    (s.stampPicture source take rr).freeTick = s.freeTick ∧ (s.stampPicture source take rr).pending = s.pending := by
  simp [State.stampPicture]

@[simp] theorem State.joinPicture_frame (s : State) (take : Nat) (source : Nat) :
    (s.joinPicture take source).du = s.du ∧ (s.joinPicture take source).prs = s.prs ∧
    (s.joinPicture take source).ps = s.ps ∧ (s.joinPicture take source).tc = s.tc ∧
    (s.joinPicture take source).scF = s.scF ∧ (s.joinPicture take source).scP = s.scP ∧
    (s.joinPicture take source).tkc = s.tkc ∧ (s.joinPicture take source).lsA = s.lsA ∧
    (s.joinPicture take source).lsB = s.lsB ∧ (s.joinPicture take source).dram = s.dram ∧
    (s.joinPicture take source).wordErrors = s.wordErrors ∧ (s.joinPicture take source).freeTick = s.freeTick ∧
    (s.joinPicture take source).pending = s.pending := by
  unfold State.joinPicture; split <;> simp

@[simp] theorem State.setNeeds_frame (s : State) (h : Handing) :
    (s.setNeeds h).ti = s.ti ∧ (s.setNeeds h).du = s.du ∧ (s.setNeeds h).prs = s.prs ∧ (s.setNeeds h).ps = s.ps ∧
    (s.setNeeds h).tc = s.tc ∧ (s.setNeeds h).scF = s.scF ∧ (s.setNeeds h).scP = s.scP ∧
    (s.setNeeds h).tcu = s.tcu ∧ (s.setNeeds h).tkc = s.tkc ∧ (s.setNeeds h).lsA = s.lsA ∧
    (s.setNeeds h).lsB = s.lsB ∧ (s.setNeeds h).dram = s.dram ∧ (s.setNeeds h).wordErrors = s.wordErrors ∧
    (s.setNeeds h).freeTick = s.freeTick ∧ (s.setNeeds h).pending = s.pending := by
  simp [State.setNeeds]

@[simp] theorem State.deliver_frame (s : State) (take : Nat) (h : Handing) :
    (s.deliver take h).ti = s.ti ∧ (s.deliver take h).du = s.du ∧ (s.deliver take h).prs = s.prs ∧
    (s.deliver take h).ps = s.ps ∧ (s.deliver take h).tc = s.tc ∧ (s.deliver take h).scF = s.scF ∧
    (s.deliver take h).scP = s.scP ∧ (s.deliver take h).tcu = s.tcu ∧ (s.deliver take h).dram = s.dram ∧
    (s.deliver take h).pending = s.pending := by
  unfold State.deliver; split <;> simp

@[simp] theorem State.openOnLane_frame (s : State) (t : TakeRec) (l : LaneId) :
    (s.openOnLane t l).ti = s.ti ∧ (s.openOnLane t l).du = s.du ∧ (s.openOnLane t l).prs = s.prs ∧
    (s.openOnLane t l).ps = s.ps ∧ (s.openOnLane t l).tc = s.tc ∧ (s.openOnLane t l).scF = s.scF ∧
    (s.openOnLane t l).scP = s.scP ∧ (s.openOnLane t l).tcu = s.tcu ∧ (s.openOnLane t l).dram = s.dram ∧
    (s.openOnLane t l).pending = s.pending := by
  unfold State.openOnLane; split <;> simp

@[simp] theorem State.createTake_frame (s : State) (t : TakeRec) (clamped : Bool) :
    (s.createTake t clamped).ti = s.ti ∧ (s.createTake t clamped).du = s.du ∧
    (s.createTake t clamped).prs = s.prs ∧ (s.createTake t clamped).ps = s.ps ∧
    (s.createTake t clamped).tc = s.tc ∧ (s.createTake t clamped).scF = s.scF ∧
    (s.createTake t clamped).scP = s.scP ∧ (s.createTake t clamped).fsc = s.fsc ∧
    (s.createTake t clamped).tcu = s.tcu ∧ (s.createTake t clamped).lsA = s.lsA ∧
    (s.createTake t clamped).lsB = s.lsB ∧ (s.createTake t clamped).dram = s.dram ∧
    (s.createTake t clamped).wordErrors = s.wordErrors ∧ (s.createTake t clamped).freeTick = s.freeTick ∧
    (s.createTake t clamped).pending = s.pending := by
  simp [State.createTake]

@[simp] theorem State.joinPreRoll_frame (s : State) (t : TakeRec) (sources : List Nat) :
    (s.joinPreRoll t sources).du = s.du ∧ (s.joinPreRoll t sources).prs = s.prs ∧
    (s.joinPreRoll t sources).ps = s.ps ∧ (s.joinPreRoll t sources).tc = s.tc ∧
    (s.joinPreRoll t sources).scF = s.scF ∧ (s.joinPreRoll t sources).scP = s.scP ∧
    (s.joinPreRoll t sources).dram = s.dram ∧ (s.joinPreRoll t sources).pending = s.pending := by
  refine ⟨?_, ?_, ?_, ?_, ?_, ?_, ?_, ?_⟩ <;>
    · simp only [State.joinPreRoll]
      refine (foldl_frame _ _ (fun s a => by simp) _ _).trans ((foldl_frame _ _ (fun s a => by simp) _ _).trans ?_)
      simp only [State.editTake]
      exact foldl_frame _ _ (fun s a => by simp) _ _

@[simp] theorem State.startTake_frame (s : State) (p : Nat) :
    (s.startTake p).du = s.du ∧ (s.startTake p).prs = s.prs ∧ (s.startTake p).ps = s.ps ∧
    (s.startTake p).tc = s.tc ∧ (s.startTake p).scF = s.scF ∧ (s.startTake p).scP = s.scP ∧
    (s.startTake p).dram = s.dram ∧ (s.startTake p).pending = s.pending := by
  simp [State.startTake]

@[simp] theorem State.leaveOpen_frame (s : State) (t : TakeRec) (reason : EndReason) (e : Int) :
    (s.leaveOpen t reason e).ti = s.ti ∧ (s.leaveOpen t reason e).du = s.du ∧
    (s.leaveOpen t reason e).prs = s.prs ∧ (s.leaveOpen t reason e).ps = s.ps ∧
    (s.leaveOpen t reason e).tc = s.tc ∧ (s.leaveOpen t reason e).scF = s.scF ∧
    (s.leaveOpen t reason e).scP = s.scP ∧ (s.leaveOpen t reason e).tcu = s.tcu ∧
    (s.leaveOpen t reason e).dram = s.dram ∧ (s.leaveOpen t reason e).pending = s.pending := by
  unfold State.leaveOpen; split <;> simp

@[simp] theorem State.cutHold_frame (s : State) (t : TakeRec) (newEnd : Int) (l : LaneId) :
    (s.cutHold t newEnd l).ti = s.ti ∧ (s.cutHold t newEnd l).du = s.du ∧ (s.cutHold t newEnd l).prs = s.prs ∧
    (s.cutHold t newEnd l).ps = s.ps ∧ (s.cutHold t newEnd l).tc = s.tc ∧ (s.cutHold t newEnd l).scF = s.scF ∧
    (s.cutHold t newEnd l).scP = s.scP ∧ (s.cutHold t newEnd l).tcu = s.tcu ∧ (s.cutHold t newEnd l).lsA = s.lsA ∧
    (s.cutHold t newEnd l).lsB = s.lsB ∧ (s.cutHold t newEnd l).dram = s.dram ∧
    (s.cutHold t newEnd l).wordErrors = s.wordErrors ∧ (s.cutHold t newEnd l).freeTick = s.freeTick ∧
    (s.cutHold t newEnd l).pending = s.pending := by
  simp [State.cutHold]

@[simp] theorem State.clearWaiting_frame (s : State) (w : Waiting) :
    (s.clearWaiting w).ti = s.ti ∧ (s.clearWaiting w).du = s.du ∧ (s.clearWaiting w).prs = s.prs ∧
    (s.clearWaiting w).ps = s.ps ∧ (s.clearWaiting w).tc = s.tc ∧ (s.clearWaiting w).scF = s.scF ∧
    (s.clearWaiting w).scP = s.scP ∧ (s.clearWaiting w).tcu = s.tcu ∧ (s.clearWaiting w).tkc = s.tkc ∧
    (s.clearWaiting w).lsA = s.lsA ∧ (s.clearWaiting w).lsB = s.lsB ∧ (s.clearWaiting w).dram = s.dram ∧
    (s.clearWaiting w).wordErrors = s.wordErrors ∧ (s.clearWaiting w).freeTick = s.freeTick ∧
    (s.clearWaiting w).pending = s.pending := by
  simp [State.clearWaiting]

@[simp] theorem State.dropPictures_frame (s : State) (t : TakeRec) (newEnd : Int) :
    (s.dropPictures t newEnd).du = s.du ∧ (s.dropPictures t newEnd).prs = s.prs ∧
    (s.dropPictures t newEnd).ps = s.ps ∧ (s.dropPictures t newEnd).tc = s.tc ∧
    (s.dropPictures t newEnd).scF = s.scF ∧ (s.dropPictures t newEnd).scP = s.scP ∧
    (s.dropPictures t newEnd).tcu = s.tcu ∧ (s.dropPictures t newEnd).lsA = s.lsA ∧
    (s.dropPictures t newEnd).lsB = s.lsB ∧ (s.dropPictures t newEnd).dram = s.dram ∧
    (s.dropPictures t newEnd).wordErrors = s.wordErrors ∧ (s.dropPictures t newEnd).freeTick = s.freeTick ∧
    (s.dropPictures t newEnd).pending = s.pending := by
  refine ⟨?_, ?_, ?_, ?_, ?_, ?_, ?_, ?_, ?_, ?_, ?_, ?_, ?_⟩ <;>
    · simp only [State.dropPictures]
      exact (foldl_frame _ _ (fun s a => by simp) _ _).trans (by simp)

@[simp] theorem State.cut_frame (s : State) (c : Nat) (reason : EndReason) :
    (s.cut c reason).du = s.du ∧ (s.cut c reason).prs = s.prs ∧ (s.cut c reason).ps = s.ps ∧
    (s.cut c reason).tc = s.tc ∧ (s.cut c reason).scF = s.scF ∧ (s.cut c reason).scP = s.scP ∧
    (s.cut c reason).tcu = s.tcu ∧ (s.cut c reason).dram = s.dram ∧ (s.cut c reason).pending = s.pending := by
  simp only [State.cut]; (repeat' split) <;> simp

@[simp] theorem State.restartTold_frame (s : State) (x0 : Option Nat) :
    (s.restartTold x0).du = s.du ∧ (s.restartTold x0).prs = s.prs ∧ (s.restartTold x0).ps = s.ps ∧
    (s.restartTold x0).tc = s.tc ∧ (s.restartTold x0).scF = s.scF ∧ (s.restartTold x0).scP = s.scP ∧
    (s.restartTold x0).tcu = s.tcu ∧ (s.restartTold x0).dram = s.dram ∧ (s.restartTold x0).pending = s.pending := by
  unfold State.restartTold; (repeat' split) <;> simp

@[simp] theorem State.dropFromTkc_frame (s : State) (st : Stream) (source : Nat) :
    (s.dropFromTkc st source).ti = s.ti ∧ (s.dropFromTkc st source).du = s.du ∧
    (s.dropFromTkc st source).prs = s.prs ∧ (s.dropFromTkc st source).ps = s.ps ∧
    (s.dropFromTkc st source).tc = s.tc ∧ (s.dropFromTkc st source).scF = s.scF ∧
    (s.dropFromTkc st source).scP = s.scP ∧ (s.dropFromTkc st source).fsc = s.fsc ∧
    (s.dropFromTkc st source).tcu = s.tcu ∧ (s.dropFromTkc st source).lsA = s.lsA ∧
    (s.dropFromTkc st source).lsB = s.lsB ∧ (s.dropFromTkc st source).dram = s.dram ∧
    (s.dropFromTkc st source).wordErrors = s.wordErrors ∧ (s.dropFromTkc st source).freeTick = s.freeTick ∧
    (s.dropFromTkc st source).pending = s.pending := by
  simp only [State.dropFromTkc]; (repeat' split) <;> simp

@[simp] theorem State.tkcOpen_frame (s : State) (source : Nat) (kept : Bool) :
    (s.tkcOpen source kept).du = s.du ∧ (s.tkcOpen source kept).prs = s.prs ∧ (s.tkcOpen source kept).ps = s.ps ∧
    (s.tkcOpen source kept).tc = s.tc ∧ (s.tkcOpen source kept).scF = s.scF ∧ (s.tkcOpen source kept).scP = s.scP ∧
    (s.tkcOpen source kept).fsc = s.fsc ∧ (s.tkcOpen source kept).lsA = s.lsA ∧
    (s.tkcOpen source kept).lsB = s.lsB ∧ (s.tkcOpen source kept).dram = s.dram ∧
    (s.tkcOpen source kept).wordErrors = s.wordErrors ∧ (s.tkcOpen source kept).freeTick = s.freeTick ∧
    (s.tkcOpen source kept).pending = s.pending := by
  simp only [State.tkcOpen]; (repeat' split) <;> simp

@[simp] theorem State.ignoreTrigger_frame (s : State) :
    (s.ignoreTrigger).ti = s.ti ∧ (s.ignoreTrigger).du = s.du ∧ (s.ignoreTrigger).prs = s.prs ∧
    (s.ignoreTrigger).ps = s.ps ∧ (s.ignoreTrigger).tc = s.tc ∧ (s.ignoreTrigger).scF = s.scF ∧
    (s.ignoreTrigger).scP = s.scP ∧ (s.ignoreTrigger).fsc = s.fsc ∧ (s.ignoreTrigger).tcu = s.tcu ∧
    (s.ignoreTrigger).lsA = s.lsA ∧ (s.ignoreTrigger).lsB = s.lsB ∧ (s.ignoreTrigger).dram = s.dram ∧
    (s.ignoreTrigger).wordErrors = s.wordErrors ∧ (s.ignoreTrigger).freeTick = s.freeTick ∧
    (s.ignoreTrigger).pending = s.pending := by
  simp [State.ignoreTrigger]

@[simp] theorem State.triggerEvent_frame (s : State) (k : TrigKind) :
    (s.triggerEvent k).du = s.du ∧ (s.triggerEvent k).prs = s.prs ∧ (s.triggerEvent k).ps = s.ps ∧
    (s.triggerEvent k).tc = s.tc ∧ (s.triggerEvent k).scF = s.scF ∧ (s.triggerEvent k).scP = s.scP ∧
    (s.triggerEvent k).dram = s.dram ∧ (s.triggerEvent k).pending = s.pending := by
  unfold State.triggerEvent; (repeat' split) <;> simp

@[simp] theorem State.emptySlot_frame (s : State) (i : SlotId) :
    (s.emptySlot i).ti = s.ti ∧ (s.emptySlot i).du = s.du ∧ (s.emptySlot i).prs = s.prs ∧
    (s.emptySlot i).tc = s.tc ∧ (s.emptySlot i).scF = s.scF ∧ (s.emptySlot i).scP = s.scP ∧
    (s.emptySlot i).fsc = s.fsc ∧ (s.emptySlot i).tcu = s.tcu ∧ (s.emptySlot i).tkc = s.tkc ∧
    (s.emptySlot i).lsA = s.lsA ∧ (s.emptySlot i).lsB = s.lsB ∧ (s.emptySlot i).dram = s.dram ∧
    (s.emptySlot i).wordErrors = s.wordErrors ∧ (s.emptySlot i).freeTick = s.freeTick ∧
    (s.emptySlot i).pending = s.pending := by
  unfold State.emptySlot; split <;> simp

@[simp] theorem State.emptySlotsOf_frame (s : State) (source : Nat) :
    (s.emptySlotsOf source).ti = s.ti ∧ (s.emptySlotsOf source).du = s.du ∧ (s.emptySlotsOf source).prs = s.prs ∧
    (s.emptySlotsOf source).tc = s.tc ∧ (s.emptySlotsOf source).scF = s.scF ∧ (s.emptySlotsOf source).scP = s.scP ∧
    (s.emptySlotsOf source).fsc = s.fsc ∧ (s.emptySlotsOf source).tcu = s.tcu ∧
    (s.emptySlotsOf source).tkc = s.tkc ∧ (s.emptySlotsOf source).lsA = s.lsA ∧
    (s.emptySlotsOf source).lsB = s.lsB ∧ (s.emptySlotsOf source).dram = s.dram ∧
    (s.emptySlotsOf source).wordErrors = s.wordErrors ∧ (s.emptySlotsOf source).freeTick = s.freeTick ∧
    (s.emptySlotsOf source).pending = s.pending := by
  simp only [State.emptySlotsOf]; (repeat' split) <;> simp

@[simp] theorem State.abandonPs_frame (s : State) (source : Nat) :
    (s.abandonPs source).ti = s.ti ∧ (s.abandonPs source).du = s.du ∧ (s.abandonPs source).prs = s.prs ∧
    (s.abandonPs source).tc = s.tc ∧ (s.abandonPs source).scF = s.scF ∧ (s.abandonPs source).scP = s.scP ∧
    (s.abandonPs source).fsc = s.fsc ∧ (s.abandonPs source).tcu = s.tcu ∧ (s.abandonPs source).tkc = s.tkc ∧
    (s.abandonPs source).lsA = s.lsA ∧ (s.abandonPs source).lsB = s.lsB ∧ (s.abandonPs source).dram = s.dram ∧
    (s.abandonPs source).wordErrors = s.wordErrors ∧ (s.abandonPs source).freeTick = s.freeTick ∧
    (s.abandonPs source).pending = s.pending := by
  simp [State.abandonPs]

@[simp] theorem State.loseProxy_frame (s : State) (source : Nat) :
    (s.loseProxy source).du = s.du ∧ (s.loseProxy source).prs = s.prs ∧ (s.loseProxy source).ps = s.ps ∧
    (s.loseProxy source).tc = s.tc ∧ (s.loseProxy source).scF = s.scF ∧ (s.loseProxy source).tcu = s.tcu ∧
    (s.loseProxy source).dram = s.dram ∧ (s.loseProxy source).pending = s.pending := by
  simp [State.loseProxy]

@[simp] theorem State.postAbandon_frame (s : State) (source : Nat) :
    (s.postAbandon source).ti = s.ti ∧ (s.postAbandon source).du = s.du ∧ (s.postAbandon source).prs = s.prs ∧
    (s.postAbandon source).ps = s.ps ∧ (s.postAbandon source).tc = s.tc ∧ (s.postAbandon source).scF = s.scF ∧
    (s.postAbandon source).fsc = s.fsc ∧ (s.postAbandon source).tcu = s.tcu ∧ (s.postAbandon source).tkc = s.tkc ∧
    (s.postAbandon source).lsA = s.lsA ∧ (s.postAbandon source).lsB = s.lsB ∧
    (s.postAbandon source).dram = s.dram ∧ (s.postAbandon source).wordErrors = s.wordErrors ∧
    (s.postAbandon source).freeTick = s.freeTick ∧ (s.postAbandon source).pending = s.pending := by
  simp [State.postAbandon]

@[simp] theorem State.abandon_frame (s : State) (source row : Nat) :
    (s.abandon source row).du = s.du ∧ (s.abandon source row).prs = s.prs ∧ (s.abandon source row).tc = s.tc ∧
    (s.abandon source row).scF = s.scF ∧ (s.abandon source row).tcu = s.tcu ∧
    (s.abandon source row).dram = s.dram ∧ (s.abandon source row).pending = s.pending := by
  simp only [State.abandon]; (repeat' split) <;> simp

@[simp] theorem State.rowComplete_frame (s : State) (c : Scaled) :
    (s.rowComplete c).du = s.du ∧ (s.rowComplete c).prs = s.prs ∧ (s.rowComplete c).tc = s.tc ∧
    (s.rowComplete c).scF = s.scF ∧ (s.rowComplete c).tcu = s.tcu ∧ (s.rowComplete c).dram = s.dram ∧
    (s.rowComplete c).pending = s.pending := by
  unfold State.rowComplete; split <;> simp

@[simp] theorem State.scalePosition_frame (s : State) (pos : Nat) (samples : Option (List Sample)) :
    (s.scalePosition pos samples).du = s.du ∧ (s.scalePosition pos samples).prs = s.prs ∧
    (s.scalePosition pos samples).tc = s.tc ∧ (s.scalePosition pos samples).scF = s.scF ∧
    (s.scalePosition pos samples).tcu = s.tcu ∧ (s.scalePosition pos samples).dram = s.dram ∧
    (s.scalePosition pos samples).pending = s.pending := by
  unfold State.scalePosition; (repeat' split) <;> simp

@[simp] theorem State.scaleRun_frame (s : State) (first : Nat) (x0 : Nat) :
    (s.scaleRun first x0).du = s.du ∧ (s.scaleRun first x0).prs = s.prs ∧ (s.scaleRun first x0).tc = s.tc ∧
    (s.scaleRun first x0).scF = s.scF ∧ (s.scaleRun first x0).tcu = s.tcu ∧ (s.scaleRun first x0).dram = s.dram ∧
    (s.scaleRun first x0).pending = s.pending := by
  induction x0 generalizing s first with
  | zero => simp [State.scaleRun]
  | succ n ih => simp [State.scaleRun, ih]

@[simp] theorem State.tap_frame (s : State) (x0 : FifoEntry) :
    (s.tap x0).du = s.du ∧ (s.tap x0).prs = s.prs ∧ (s.tap x0).tc = s.tc ∧ (s.tap x0).scF = s.scF ∧
    (s.tap x0).tcu = s.tcu ∧ (s.tap x0).dram = s.dram ∧ (s.tap x0).pending = s.pending := by
  unfold State.tap; split <;> simp

@[simp] theorem State.psOpen_frame (s : State) (source : Nat) (kept align : Bool) :
    (s.psOpen source kept align).du = s.du ∧ (s.psOpen source kept align).prs = s.prs ∧
    (s.psOpen source kept align).tc = s.tc ∧ (s.psOpen source kept align).scF = s.scF ∧
    (s.psOpen source kept align).fsc = s.fsc ∧ (s.psOpen source kept align).tcu = s.tcu ∧
    (s.psOpen source kept align).tkc = s.tkc ∧ (s.psOpen source kept align).lsA = s.lsA ∧
    (s.psOpen source kept align).lsB = s.lsB ∧ (s.psOpen source kept align).dram = s.dram ∧
    (s.psOpen source kept align).wordErrors = s.wordErrors ∧ (s.psOpen source kept align).freeTick = s.freeTick ∧
    (s.psOpen source kept align).pending = s.pending := by
  simp only [State.psOpen]; (repeat' split) <;> simp

@[simp] theorem State.restartPs_frame (s : State) :
    (s.restartPs).du = s.du ∧ (s.restartPs).prs = s.prs ∧ (s.restartPs).tc = s.tc ∧ (s.restartPs).scF = s.scF ∧
    (s.restartPs).tcu = s.tcu ∧ (s.restartPs).dram = s.dram ∧ (s.restartPs).pending = s.pending := by
  refine ⟨?_, ?_, ?_, ?_, ?_, ?_, ?_⟩ <;>
    · simp only [State.restartPs]
      exact (foldl_frame _ _ (fun s a => by simp) _ _).trans (by simp)

@[simp] theorem State.takeRefLoss_frame (s : State) :
    (s.takeRefLoss).ti = s.ti ∧ (s.takeRefLoss).du = s.du ∧ (s.takeRefLoss).prs = s.prs ∧
    (s.takeRefLoss).ps = s.ps ∧ (s.takeRefLoss).tc = s.tc ∧ (s.takeRefLoss).scF = s.scF ∧
    (s.takeRefLoss).scP = s.scP ∧ (s.takeRefLoss).fsc = s.fsc ∧ (s.takeRefLoss).tkc = s.tkc ∧
    (s.takeRefLoss).dram = s.dram ∧ (s.takeRefLoss).wordErrors = s.wordErrors ∧
    (s.takeRefLoss).freeTick = s.freeTick ∧ (s.takeRefLoss).pending = s.pending := by
  unfold State.takeRefLoss; split <;> simp

@[simp] theorem State.restoreRef_frame (s : State) :
    (s.restoreRef).ti = s.ti ∧ (s.restoreRef).du = s.du ∧ (s.restoreRef).prs = s.prs ∧ (s.restoreRef).ps = s.ps ∧
    (s.restoreRef).tc = s.tc ∧ (s.restoreRef).scF = s.scF ∧ (s.restoreRef).scP = s.scP ∧
    (s.restoreRef).fsc = s.fsc ∧ (s.restoreRef).tkc = s.tkc ∧ (s.restoreRef).dram = s.dram ∧
    (s.restoreRef).wordErrors = s.wordErrors ∧ (s.restoreRef).freeTick = s.freeTick ∧
    (s.restoreRef).pending = s.pending := by
  unfold State.restoreRef; split <;> simp

@[simp] theorem State.refPulse_frame (s : State) :
    (s.refPulse).ti = s.ti ∧ (s.refPulse).du = s.du ∧ (s.refPulse).prs = s.prs ∧ (s.refPulse).ps = s.ps ∧
    (s.refPulse).tc = s.tc ∧ (s.refPulse).scF = s.scF ∧ (s.refPulse).scP = s.scP ∧ (s.refPulse).fsc = s.fsc ∧
    (s.refPulse).tkc = s.tkc ∧ (s.refPulse).dram = s.dram ∧ (s.refPulse).wordErrors = s.wordErrors ∧
    (s.refPulse).freeTick = s.freeTick ∧ (s.refPulse).pending = s.pending := by
  simp [State.refPulse]

@[simp] theorem State.tcuOpen_frame (s : State) (source : Nat) :
    (s.tcuOpen source).ti = s.ti ∧ (s.tcuOpen source).du = s.du ∧ (s.tcuOpen source).prs = s.prs ∧
    (s.tcuOpen source).ps = s.ps ∧ (s.tcuOpen source).tc = s.tc ∧ (s.tcuOpen source).scF = s.scF ∧
    (s.tcuOpen source).scP = s.scP ∧ (s.tcuOpen source).fsc = s.fsc ∧ (s.tcuOpen source).tkc = s.tkc ∧
    (s.tcuOpen source).dram = s.dram ∧ (s.tcuOpen source).wordErrors = s.wordErrors ∧
    (s.tcuOpen source).freeTick = s.freeTick ∧ (s.tcuOpen source).pending = s.pending := by
  simp [State.tcuOpen]

@[simp] theorem State.trigEdge_frame (s : State) (rising : Bool) :
    (s.trigEdge rising).du = s.du ∧ (s.trigEdge rising).prs = s.prs ∧ (s.trigEdge rising).ps = s.ps ∧
    (s.trigEdge rising).tc = s.tc ∧ (s.trigEdge rising).scF = s.scF ∧ (s.trigEdge rising).scP = s.scP ∧
    (s.trigEdge rising).dram = s.dram ∧ (s.trigEdge rising).pending = s.pending := by
  unfold State.trigEdge; (repeat' split) <;> simp

end Sys2Proof.Machine
end

