-- ==== Sys2Proof/Laws/FramesBlocks.lean ====
section
/-! SUPPORT. What each operation of Units, Coder, Intake and Profiles leaves unchanged, one lemma per operation. -/

namespace Sys2Proof.Machine

@[simp] theorem State.tellDrop_frame (s : State) (st : Stream) (source : Nat) :
    (s.tellDrop st source).ti = s.ti ∧ (s.tellDrop st source).du = s.du ∧ (s.tellDrop st source).prs = s.prs ∧
    (s.tellDrop st source).ps = s.ps ∧ (s.tellDrop st source).tc = s.tc ∧ (s.tellDrop st source).scF = s.scF ∧
    (s.tellDrop st source).scP = s.scP ∧ (s.tellDrop st source).tcu = s.tcu ∧
    (s.tellDrop st source).dram = s.dram ∧ (s.tellDrop st source).pending = s.pending := by
  simp [State.tellDrop]

@[simp] theorem State.releaseForSpace_frame (s : State) (st : Stream) (e : DirEntry) :
    (s.releaseForSpace st e).ti = s.ti ∧ (s.releaseForSpace st e).du = s.du ∧
    (s.releaseForSpace st e).prs = s.prs ∧ (s.releaseForSpace st e).ps = s.ps ∧
    (s.releaseForSpace st e).tc = s.tc ∧ (s.releaseForSpace st e).scF = s.scF ∧
    (s.releaseForSpace st e).scP = s.scP ∧ (s.releaseForSpace st e).tcu = s.tcu ∧
    (s.releaseForSpace st e).dram = s.dram ∧ (s.releaseForSpace st e).pending = s.pending := by
  unfold State.releaseForSpace; split <;> simp

@[simp] theorem State.walk_frame (s : State) (st : Stream) (size : Nat) (x0 : Nat) :
    (s.walk st size x0).ti = s.ti ∧ (s.walk st size x0).du = s.du ∧ (s.walk st size x0).prs = s.prs ∧
    (s.walk st size x0).ps = s.ps ∧ (s.walk st size x0).tc = s.tc ∧ (s.walk st size x0).scF = s.scF ∧
    (s.walk st size x0).scP = s.scP ∧ (s.walk st size x0).tcu = s.tcu ∧ (s.walk st size x0).dram = s.dram ∧
    (s.walk st size x0).pending = s.pending := by
  induction x0 generalizing s with
  | zero => simp [State.walk]
  | succ n ih => unfold State.walk; (repeat' split) <;> simp [ih]

@[simp] theorem State.makeReservation_frame (s : State) (st : Stream) (size : Nat) :
    (s.makeReservation st size).ti = s.ti ∧ (s.makeReservation st size).du = s.du ∧
    (s.makeReservation st size).prs = s.prs ∧ (s.makeReservation st size).ps = s.ps ∧
    (s.makeReservation st size).tc = s.tc ∧ (s.makeReservation st size).scF = s.scF ∧
    (s.makeReservation st size).scP = s.scP ∧ (s.makeReservation st size).tcu = s.tcu ∧
    (s.makeReservation st size).tkc = s.tkc ∧ (s.makeReservation st size).lsA = s.lsA ∧
    (s.makeReservation st size).lsB = s.lsB ∧ (s.makeReservation st size).dram = s.dram ∧
    (s.makeReservation st size).wordErrors = s.wordErrors ∧ (s.makeReservation st size).freeTick = s.freeTick ∧
    (s.makeReservation st size).pending = s.pending := by
  simp [State.makeReservation]

@[simp] theorem State.noteSpill_frame (s : State) (st : Stream) (source size : Nat) :
    (s.noteSpill st source size).ti = s.ti ∧ (s.noteSpill st source size).du = s.du ∧
    (s.noteSpill st source size).prs = s.prs ∧ (s.noteSpill st source size).ps = s.ps ∧
    (s.noteSpill st source size).tc = s.tc ∧ (s.noteSpill st source size).scF = s.scF ∧
    (s.noteSpill st source size).scP = s.scP ∧ (s.noteSpill st source size).tcu = s.tcu ∧
    (s.noteSpill st source size).tkc = s.tkc ∧ (s.noteSpill st source size).dram = s.dram ∧
    (s.noteSpill st source size).wordErrors = s.wordErrors ∧ (s.noteSpill st source size).freeTick = s.freeTick ∧
    (s.noteSpill st source size).pending = s.pending := by
  simp only [State.noteSpill]; (repeat' split) <;> simp

@[simp] theorem State.spill_frame (s : State) (st : Stream) (source size : Nat) :
    (s.spill st source size).du = s.du ∧ (s.spill st source size).prs = s.prs ∧
    (s.spill st source size).ps = s.ps ∧ (s.spill st source size).tc = s.tc ∧
    (s.spill st source size).scF = s.scF ∧ (s.spill st source size).scP = s.scP ∧
    (s.spill st source size).tcu = s.tcu ∧ (s.spill st source size).dram = s.dram ∧
    (s.spill st source size).pending = s.pending := by
  unfold State.spill; split <;> simp

@[simp] theorem State.writeRow_frame (s : State) (st : Stream) (rows : Nat) (bytes : List Byte) :
    (s.writeRow st rows bytes).ti = s.ti ∧ (s.writeRow st rows bytes).du = s.du ∧
    (s.writeRow st rows bytes).prs = s.prs ∧ (s.writeRow st rows bytes).ps = s.ps ∧
    (s.writeRow st rows bytes).tc = s.tc ∧ (s.writeRow st rows bytes).scF = s.scF ∧
    (s.writeRow st rows bytes).scP = s.scP ∧ (s.writeRow st rows bytes).tcu = s.tcu ∧
    (s.writeRow st rows bytes).tkc = s.tkc ∧ (s.writeRow st rows bytes).lsA = s.lsA ∧
    (s.writeRow st rows bytes).lsB = s.lsB ∧ (s.writeRow st rows bytes).freeTick = s.freeTick ∧
    (s.writeRow st rows bytes).pending = s.pending := by
  simp only [State.writeRow]; (repeat' split) <;> simp

@[simp] theorem State.writeFront_frame (s : State) (st : Stream) (c : Completion) (start : Nat) (g : Ring) :
    (s.writeFront st c start g).ti = s.ti ∧ (s.writeFront st c start g).du = s.du ∧
    (s.writeFront st c start g).prs = s.prs ∧ (s.writeFront st c start g).ps = s.ps ∧
    (s.writeFront st c start g).tc = s.tc ∧ (s.writeFront st c start g).scF = s.scF ∧
    (s.writeFront st c start g).scP = s.scP ∧ (s.writeFront st c start g).fsc = s.fsc ∧
    (s.writeFront st c start g).tcu = s.tcu ∧ (s.writeFront st c start g).tkc = s.tkc ∧
    (s.writeFront st c start g).lsA = s.lsA ∧ (s.writeFront st c start g).lsB = s.lsB ∧
    (s.writeFront st c start g).freeTick = s.freeTick ∧ (s.writeFront st c start g).pending = s.pending := by
  simp [State.writeFront]

@[simp] theorem State.completeUnit_frame (s : State) (st : Stream) (c : Completion) :
    (s.completeUnit st c).du = s.du ∧ (s.completeUnit st c).prs = s.prs ∧ (s.completeUnit st c).ps = s.ps ∧
    (s.completeUnit st c).tc = s.tc ∧ (s.completeUnit st c).scF = s.scF ∧ (s.completeUnit st c).scP = s.scP ∧
    (s.completeUnit st c).tcu = s.tcu ∧ (s.completeUnit st c).pending = s.pending := by
  unfold State.completeUnit; split <;> simp

@[simp] theorem State.setWaitList_frame (s : State) (st : Stream) (x : List ReplyTo) :
    (s.setWaitList st x).ti = s.ti ∧ (s.setWaitList st x).prs = s.prs ∧ (s.setWaitList st x).ps = s.ps ∧
    (s.setWaitList st x).tc = s.tc ∧ (s.setWaitList st x).scF = s.scF ∧ (s.setWaitList st x).scP = s.scP ∧
    (s.setWaitList st x).fsc = s.fsc ∧ (s.setWaitList st x).tcu = s.tcu ∧ (s.setWaitList st x).tkc = s.tkc ∧
    (s.setWaitList st x).lsA = s.lsA ∧ (s.setWaitList st x).lsB = s.lsB ∧ (s.setWaitList st x).dram = s.dram ∧
    (s.setWaitList st x).wordErrors = s.wordErrors ∧ (s.setWaitList st x).freeTick = s.freeTick ∧
    (s.setWaitList st x).pending = s.pending := by
  unfold State.setWaitList; split <;> simp

@[simp] theorem State.replyEach_frame (s : State) (st : Stream) (cancelled : Option Nat) (x0 : List ReplyTo) :
    (s.replyEach st cancelled x0).ti = s.ti ∧ (s.replyEach st cancelled x0).du = s.du ∧
    (s.replyEach st cancelled x0).prs = s.prs ∧ (s.replyEach st cancelled x0).ps = s.ps ∧
    (s.replyEach st cancelled x0).tc = s.tc ∧ (s.replyEach st cancelled x0).scF = s.scF ∧
    (s.replyEach st cancelled x0).scP = s.scP ∧ (s.replyEach st cancelled x0).fsc = s.fsc ∧
    (s.replyEach st cancelled x0).tcu = s.tcu ∧ (s.replyEach st cancelled x0).tkc = s.tkc ∧
    (s.replyEach st cancelled x0).dram = s.dram ∧ (s.replyEach st cancelled x0).wordErrors = s.wordErrors ∧
    (s.replyEach st cancelled x0).freeTick = s.freeTick ∧ (s.replyEach st cancelled x0).pending = s.pending := by
  induction x0 generalizing s with
  | nil => simp [State.replyEach]
  | cons a l ih => simp [State.replyEach, ih]

@[simp] theorem State.answerRestarts_frame (s : State) (st : Stream) (cancelled : Option Nat) :
    (s.answerRestarts st cancelled).ti = s.ti ∧ (s.answerRestarts st cancelled).prs = s.prs ∧
    (s.answerRestarts st cancelled).ps = s.ps ∧ (s.answerRestarts st cancelled).tc = s.tc ∧
    (s.answerRestarts st cancelled).scF = s.scF ∧ (s.answerRestarts st cancelled).scP = s.scP ∧
    (s.answerRestarts st cancelled).fsc = s.fsc ∧ (s.answerRestarts st cancelled).tcu = s.tcu ∧
    (s.answerRestarts st cancelled).tkc = s.tkc ∧ (s.answerRestarts st cancelled).dram = s.dram ∧
    (s.answerRestarts st cancelled).wordErrors = s.wordErrors ∧
    (s.answerRestarts st cancelled).freeTick = s.freeTick ∧ (s.answerRestarts st cancelled).pending = s.pending := by
  simp [State.answerRestarts]

@[simp] theorem State.cancelPicture_frame (s : State) (st : Stream) (cancelled : Option Nat) :
    (s.cancelPicture st cancelled).du = s.du ∧ (s.cancelPicture st cancelled).prs = s.prs ∧
    (s.cancelPicture st cancelled).ps = s.ps ∧ (s.cancelPicture st cancelled).tc = s.tc ∧
    (s.cancelPicture st cancelled).scF = s.scF ∧ (s.cancelPicture st cancelled).tcu = s.tcu ∧
    (s.cancelPicture st cancelled).dram = s.dram ∧ (s.cancelPicture st cancelled).pending = s.pending := by
  unfold State.cancelPicture; (repeat' split) <;> simp

@[simp] theorem State.applyRestart_frame (s : State) (st : Stream) (read : Option Nat) :
    (s.applyRestart st read).prs = s.prs ∧ (s.applyRestart st read).ps = s.ps ∧
    (s.applyRestart st read).tcu = s.tcu ∧ (s.applyRestart st read).dram = s.dram ∧
    (s.applyRestart st read).pending = s.pending := by
  simp [State.applyRestart]

@[simp] theorem State.applyRestartInactive_frame (s : State) (st : Stream) :
    (s.applyRestartInactive st).ti = s.ti ∧ (s.applyRestartInactive st).prs = s.prs ∧
    (s.applyRestartInactive st).ps = s.ps ∧ (s.applyRestartInactive st).fsc = s.fsc ∧
    (s.applyRestartInactive st).tcu = s.tcu ∧ (s.applyRestartInactive st).tkc = s.tkc ∧
    (s.applyRestartInactive st).dram = s.dram ∧ (s.applyRestartInactive st).wordErrors = s.wordErrors ∧
    (s.applyRestartInactive st).freeTick = s.freeTick ∧ (s.applyRestartInactive st).pending = s.pending := by
  simp [State.applyRestartInactive]

@[simp] theorem State.applyAbandon_frame (s : State) (n : Nat) :
    (s.applyAbandon n).du = s.du ∧ (s.applyAbandon n).prs = s.prs ∧ (s.applyAbandon n).ps = s.ps ∧
    (s.applyAbandon n).tcu = s.tcu ∧ (s.applyAbandon n).dram = s.dram ∧ (s.applyAbandon n).pending = s.pending := by
  simp only [State.applyAbandon]; (repeat' split) <;> simp

@[simp] theorem State.activate_frame (s : State) (st : Stream) (n : Nat) :
    (s.activate st n).ti = s.ti ∧ (s.activate st n).du = s.du ∧ (s.activate st n).ps = s.ps ∧
    (s.activate st n).fsc = s.fsc ∧ (s.activate st n).tcu = s.tcu ∧ (s.activate st n).tkc = s.tkc ∧
    (s.activate st n).lsA = s.lsA ∧ (s.activate st n).lsB = s.lsB ∧ (s.activate st n).dram = s.dram ∧
    (s.activate st n).wordErrors = s.wordErrors ∧ (s.activate st n).freeTick = s.freeTick ∧
    (s.activate st n).pending = s.pending := by
  simp only [State.activate]; (repeat' split) <;> simp

@[simp] theorem State.endTurn_frame (s : State) :
    (s.endTurn).ti = s.ti ∧ (s.endTurn).du = s.du ∧ (s.endTurn).prs = s.prs ∧ (s.endTurn).scF = s.scF ∧
    (s.endTurn).scP = s.scP ∧ (s.endTurn).fsc = s.fsc ∧ (s.endTurn).tcu = s.tcu ∧ (s.endTurn).tkc = s.tkc ∧
    (s.endTurn).lsA = s.lsA ∧ (s.endTurn).lsB = s.lsB ∧ (s.endTurn).dram = s.dram ∧
    (s.endTurn).wordErrors = s.wordErrors ∧ (s.endTurn).freeTick = s.freeTick ∧ (s.endTurn).pending = s.pending := by
  unfold State.endTurn; (repeat' split) <;> simp

@[simp] theorem State.finishNotCoded_frame (s : State) (st : Stream) (source : Nat) :
    (s.finishNotCoded st source).du = s.du ∧ (s.finishNotCoded st source).prs = s.prs ∧
    (s.finishNotCoded st source).ps = s.ps ∧ (s.finishNotCoded st source).tc = s.tc ∧
    (s.finishNotCoded st source).scF = s.scF ∧ (s.finishNotCoded st source).scP = s.scP ∧
    (s.finishNotCoded st source).tcu = s.tcu ∧ (s.finishNotCoded st source).dram = s.dram ∧
    (s.finishNotCoded st source).pending = s.pending := by
  unfold State.finishNotCoded; (repeat' split) <;> simp

@[simp] theorem State.passRow_frame (s : State) (r : ProxyRow) :
    (s.passRow r).du = s.du ∧ (s.passRow r).prs = s.prs ∧ (s.passRow r).ps = s.ps ∧ (s.passRow r).tc = s.tc ∧
    (s.passRow r).scF = s.scF ∧ (s.passRow r).tcu = s.tcu ∧ (s.passRow r).dram = s.dram ∧
    (s.passRow r).pending = s.pending := by
  unfold State.passRow; split <;> simp

@[simp] theorem State.endEmptyTurn_frame (s : State) :
    (s.endEmptyTurn).du = s.du ∧ (s.endEmptyTurn).prs = s.prs ∧ (s.endEmptyTurn).scF = s.scF ∧
    (s.endEmptyTurn).tcu = s.tcu ∧ (s.endEmptyTurn).dram = s.dram ∧ (s.endEmptyTurn).pending = s.pending := by
  unfold State.endEmptyTurn; split <;> simp

@[simp] theorem State.editFifo_frame (s : State) (f : List FifoEntry → List FifoEntry) :
    (s.editFifo f).du = s.du ∧ (s.editFifo f).prs = s.prs ∧ (s.editFifo f).ps = s.ps ∧ (s.editFifo f).tc = s.tc ∧
    (s.editFifo f).scF = s.scF ∧ (s.editFifo f).scP = s.scP ∧ (s.editFifo f).fsc = s.fsc ∧
    (s.editFifo f).tcu = s.tcu ∧ (s.editFifo f).tkc = s.tkc ∧ (s.editFifo f).lsA = s.lsA ∧
    (s.editFifo f).lsB = s.lsB ∧ (s.editFifo f).dram = s.dram ∧ (s.editFifo f).wordErrors = s.wordErrors ∧
    (s.editFifo f).freeTick = s.freeTick ∧ (s.editFifo f).pending = s.pending := by
  simp [State.editFifo]

@[simp] theorem State.endSpilled_frame (s : State) (st : Stream) (source : Nat) :
    (s.endSpilled st source).du = s.du ∧ (s.endSpilled st source).prs = s.prs ∧
    (s.endSpilled st source).ps = s.ps ∧ (s.endSpilled st source).tcu = s.tcu ∧
    (s.endSpilled st source).dram = s.dram ∧ (s.endSpilled st source).pending = s.pending := by
  unfold State.endSpilled; split <;> simp

@[simp] theorem State.discardRow_frame (s : State) (st : Stream) (p : ProfileRec) :
    (s.discardRow st p).du = s.du ∧ (s.discardRow st p).prs = s.prs ∧ (s.discardRow st p).tcu = s.tcu ∧
    (s.discardRow st p).dram = s.dram ∧ (s.discardRow st p).pending = s.pending := by
  simp only [State.discardRow]; (repeat' split) <;> simp

@[simp] theorem State.reserveAndStart_frame (s : State) (st : Stream) (source : Nat) (p : ProfileRec) :
    (s.reserveAndStart st source p).du = s.du ∧ (s.reserveAndStart st source p).prs = s.prs ∧
    (s.reserveAndStart st source p).tcu = s.tcu ∧ (s.reserveAndStart st source p).dram = s.dram ∧
    (s.reserveAndStart st source p).pending = s.pending := by
  simp only [State.reserveAndStart]; (repeat' split) <;> simp

@[simp] theorem State.startPicture_frame (s : State) (st : Stream) (source : Nat) (activate : Bool) :
    (s.startPicture st source activate).du = s.du ∧ (s.startPicture st source activate).tcu = s.tcu ∧
    (s.startPicture st source activate).dram = s.dram ∧ (s.startPicture st source activate).pending = s.pending := by
  simp only [State.startPicture]; (repeat' split) <;> simp

@[simp] theorem State.continueF_frame (s : State) (t : Turn) :
    (s.continueF t).du = s.du ∧ (s.continueF t).tcu = s.tcu ∧ (s.continueF t).dram = s.dram ∧
    (s.continueF t).pending = s.pending := by
  unfold State.continueF; (repeat' split) <;> simp

@[simp] theorem State.continueP_frame (s : State) (t : Turn) :
    (s.continueP t).du = s.du ∧ (s.continueP t).tcu = s.tcu ∧ (s.continueP t).dram = s.dram ∧
    (s.continueP t).pending = s.pending := by
  unfold State.continueP; (repeat' split) <;> simp

@[simp] theorem State.startTurn_frame (s : State) (t : Turn) :
    (s.startTurn t).tcu = s.tcu ∧ (s.startTurn t).dram = s.dram ∧ (s.startTurn t).pending = s.pending := by
  unfold State.startTurn; (repeat' split) <;> simp

@[simp] theorem State.giveTurn_frame (s : State) (st : Stream) :
    (s.giveTurn st).tcu = s.tcu ∧ (s.giveTurn st).dram = s.dram ∧ (s.giveTurn st).pending = s.pending := by
  simp only [State.giveTurn]; (repeat' split) <;> simp

@[simp] theorem State.arbiterChoice_frame (s : State) :
    (s.arbiterChoice).tcu = s.tcu ∧ (s.arbiterChoice).dram = s.dram ∧ (s.arbiterChoice).pending = s.pending := by
  unfold State.arbiterChoice; split <;> simp

@[simp] theorem State.saveWorkingSet_frame (s : State) :
    (s.saveWorkingSet).ti = s.ti ∧ (s.saveWorkingSet).du = s.du ∧ (s.saveWorkingSet).prs = s.prs ∧
    (s.saveWorkingSet).ps = s.ps ∧ (s.saveWorkingSet).tc = s.tc ∧ (s.saveWorkingSet).fsc = s.fsc ∧
    (s.saveWorkingSet).tcu = s.tcu ∧ (s.saveWorkingSet).tkc = s.tkc ∧ (s.saveWorkingSet).lsA = s.lsA ∧
    (s.saveWorkingSet).lsB = s.lsB ∧ (s.saveWorkingSet).dram = s.dram ∧
    (s.saveWorkingSet).wordErrors = s.wordErrors ∧ (s.saveWorkingSet).freeTick = s.freeTick ∧
    (s.saveWorkingSet).pending = s.pending := by
  unfold State.saveWorkingSet; split <;> simp

@[simp] theorem State.loadWorkingSet_frame (s : State) (st : Stream) :
    (s.loadWorkingSet st).ti = s.ti ∧ (s.loadWorkingSet st).du = s.du ∧ (s.loadWorkingSet st).prs = s.prs ∧
    (s.loadWorkingSet st).ps = s.ps ∧ (s.loadWorkingSet st).scF = s.scF ∧ (s.loadWorkingSet st).scP = s.scP ∧
    (s.loadWorkingSet st).fsc = s.fsc ∧ (s.loadWorkingSet st).tcu = s.tcu ∧ (s.loadWorkingSet st).tkc = s.tkc ∧
    (s.loadWorkingSet st).lsA = s.lsA ∧ (s.loadWorkingSet st).lsB = s.lsB ∧ (s.loadWorkingSet st).dram = s.dram ∧
    (s.loadWorkingSet st).wordErrors = s.wordErrors ∧ (s.loadWorkingSet st).freeTick = s.freeTick ∧
    (s.loadWorkingSet st).pending = s.pending := by
  simp [State.loadWorkingSet]

@[simp] theorem State.handOver_frame (s : State) :
    (s.handOver).tcu = s.tcu ∧ (s.handOver).dram = s.dram ∧ (s.handOver).pending = s.pending := by
  unfold State.handOver; (repeat' split) <;> simp

@[simp] theorem State.noteCeiling_frame (s : State) (st : Stream) (source : Nat) (p : ProfileRec) (w : WorkingSet) :
    (s.noteCeiling st source p w).ti = s.ti ∧ (s.noteCeiling st source p w).du = s.du ∧
    (s.noteCeiling st source p w).prs = s.prs ∧ (s.noteCeiling st source p w).ps = s.ps ∧
    (s.noteCeiling st source p w).tc = s.tc ∧ (s.noteCeiling st source p w).scF = s.scF ∧
    (s.noteCeiling st source p w).scP = s.scP ∧ (s.noteCeiling st source p w).fsc = s.fsc ∧
    (s.noteCeiling st source p w).tcu = s.tcu ∧ (s.noteCeiling st source p w).tkc = s.tkc ∧
    (s.noteCeiling st source p w).dram = s.dram ∧ (s.noteCeiling st source p w).wordErrors = s.wordErrors ∧
    (s.noteCeiling st source p w).freeTick = s.freeTick ∧ (s.noteCeiling st source p w).pending = s.pending := by
  unfold State.noteCeiling; split <;> simp

@[simp] theorem State.endPicture_frame (s : State) (st : Stream) (source : Nat) (p : ProfileRec) :
    (s.endPicture st source p).du = s.du ∧ (s.endPicture st source p).prs = s.prs ∧
    (s.endPicture st source p).ps = s.ps ∧ (s.endPicture st source p).tcu = s.tcu ∧
    (s.endPicture st source p).pending = s.pending := by
  unfold State.endPicture; split <;> simp

@[simp] theorem State.endRow_frame (s : State) (t : Turn) (p : ProfileRec) :
    (s.endRow t p).du = s.du ∧ (s.endRow t p).prs = s.prs ∧ (s.endRow t p).tcu = s.tcu ∧
    (s.endRow t p).pending = s.pending := by
  simp only [State.endRow]; (repeat' split) <;> simp

@[simp] theorem State.codePiece_frame (s : State) (t : Turn) (p : ProfileRec) (x : Piece) :
    (s.codePiece t p x).du = s.du ∧ (s.codePiece t p x).prs = s.prs ∧ (s.codePiece t p x).tcu = s.tcu ∧
    (s.codePiece t p x).pending = s.pending := by
  simp only [State.codePiece]; (repeat' split) <;> simp

@[simp] theorem State.codeTile_frame (s : State) :
    (s.codeTile).du = s.du ∧ (s.codeTile).prs = s.prs ∧ (s.codeTile).tcu = s.tcu ∧
    (s.codeTile).pending = s.pending := by
  unfold State.codeTile; (repeat' split) <;> simp

@[simp] theorem State.passByEntry_frame (s : State) :
    (s.passByEntry).du = s.du ∧ (s.passByEntry).prs = s.prs ∧ (s.passByEntry).ps = s.ps ∧
    (s.passByEntry).tc = s.tc ∧ (s.passByEntry).scP = s.scP ∧ (s.passByEntry).tcu = s.tcu ∧
    (s.passByEntry).dram = s.dram ∧ (s.passByEntry).pending = s.pending := by
  unfold State.passByEntry; (repeat' split) <;> simp

@[simp] theorem State.passByRow_frame (s : State) :
    (s.passByRow).du = s.du ∧ (s.passByRow).prs = s.prs ∧ (s.passByRow).tc = s.tc ∧ (s.passByRow).scF = s.scF ∧
    (s.passByRow).tcu = s.tcu ∧ (s.passByRow).dram = s.dram ∧ (s.passByRow).pending = s.pending := by
  unfold State.passByRow; (repeat' split) <;> simp

@[simp] theorem State.keepReply_frame (s : State) (st : Stream) (d : Directive) :
    (s.keepReply st d).ti = s.ti ∧ (s.keepReply st d).prs = s.prs ∧ (s.keepReply st d).ps = s.ps ∧
    (s.keepReply st d).tc = s.tc ∧ (s.keepReply st d).scF = s.scF ∧ (s.keepReply st d).scP = s.scP ∧
    (s.keepReply st d).fsc = s.fsc ∧ (s.keepReply st d).tcu = s.tcu ∧ (s.keepReply st d).tkc = s.tkc ∧
    (s.keepReply st d).lsA = s.lsA ∧ (s.keepReply st d).lsB = s.lsB ∧ (s.keepReply st d).dram = s.dram ∧
    (s.keepReply st d).wordErrors = s.wordErrors ∧ (s.keepReply st d).freeTick = s.freeTick ∧
    (s.keepReply st d).pending = s.pending := by
  unfold State.keepReply; split <;> simp

@[simp] theorem State.postRestart_frame (s : State) (st : Stream) (d : Directive) :
    (s.postRestart st d).prs = s.prs ∧ (s.postRestart st d).tcu = s.tcu ∧ (s.postRestart st d).dram = s.dram ∧
    (s.postRestart st d).pending = s.pending := by
  simp only [State.postRestart]; (repeat' split) <;> simp

@[simp] theorem State.restartDirective_frame (s : State) :
    (s.restartDirective).prs = s.prs ∧ (s.restartDirective).tcu = s.tcu ∧ (s.restartDirective).dram = s.dram ∧
    (s.restartDirective).pending = s.pending := by
  unfold State.restartDirective; (repeat' split) <;> simp

@[simp] theorem State.countTi_frame (s : State) (f : TiCounters → TiCounters) :
    (s.countTi f).du = s.du ∧ (s.countTi f).prs = s.prs ∧ (s.countTi f).ps = s.ps ∧ (s.countTi f).tc = s.tc ∧
    (s.countTi f).scF = s.scF ∧ (s.countTi f).scP = s.scP ∧ (s.countTi f).fsc = s.fsc ∧ (s.countTi f).tcu = s.tcu ∧
    (s.countTi f).tkc = s.tkc ∧ (s.countTi f).lsA = s.lsA ∧ (s.countTi f).lsB = s.lsB ∧
    (s.countTi f).dram = s.dram ∧ (s.countTi f).wordErrors = s.wordErrors ∧ (s.countTi f).freeTick = s.freeTick ∧
    (s.countTi f).pending = s.pending := by
  simp [State.countTi]

@[simp] theorem State.goodHeader_frame (s : State) :
    (s.goodHeader).du = s.du ∧ (s.goodHeader).prs = s.prs ∧ (s.goodHeader).ps = s.ps ∧ (s.goodHeader).tc = s.tc ∧
    (s.goodHeader).scF = s.scF ∧ (s.goodHeader).scP = s.scP ∧ (s.goodHeader).fsc = s.fsc ∧
    (s.goodHeader).tcu = s.tcu ∧ (s.goodHeader).tkc = s.tkc ∧ (s.goodHeader).lsA = s.lsA ∧
    (s.goodHeader).lsB = s.lsB ∧ (s.goodHeader).dram = s.dram ∧ (s.goodHeader).wordErrors = s.wordErrors ∧
    (s.goodHeader).freeTick = s.freeTick ∧ (s.goodHeader).pending = s.pending := by
  simp [State.goodHeader]

@[simp] theorem State.formatError_frame (s : State) :
    (s.formatError).du = s.du ∧ (s.formatError).prs = s.prs ∧ (s.formatError).ps = s.ps ∧
    (s.formatError).tc = s.tc ∧ (s.formatError).scF = s.scF ∧ (s.formatError).scP = s.scP ∧
    (s.formatError).fsc = s.fsc ∧ (s.formatError).tcu = s.tcu ∧ (s.formatError).tkc = s.tkc ∧
    (s.formatError).lsA = s.lsA ∧ (s.formatError).lsB = s.lsB ∧ (s.formatError).dram = s.dram ∧
    (s.formatError).wordErrors = s.wordErrors ∧ (s.formatError).freeTick = s.freeTick ∧
    (s.formatError).pending = s.pending := by
  simp [State.formatError]

@[simp] theorem State.headerFailure_frame (s : State) :
    (s.headerFailure).du = s.du ∧ (s.headerFailure).prs = s.prs ∧ (s.headerFailure).ps = s.ps ∧
    (s.headerFailure).tc = s.tc ∧ (s.headerFailure).scF = s.scF ∧ (s.headerFailure).scP = s.scP ∧
    (s.headerFailure).fsc = s.fsc ∧ (s.headerFailure).tcu = s.tcu ∧ (s.headerFailure).tkc = s.tkc ∧
    (s.headerFailure).lsA = s.lsA ∧ (s.headerFailure).lsB = s.lsB ∧ (s.headerFailure).dram = s.dram ∧
    (s.headerFailure).wordErrors = s.wordErrors ∧ (s.headerFailure).freeTick = s.freeTick ∧
    (s.headerFailure).pending = s.pending := by
  unfold State.headerFailure; (repeat' split) <;> simp

@[simp] theorem State.badPacket_frame (s : State) (c : BadCause) :
    (s.badPacket c).du = s.du ∧ (s.badPacket c).prs = s.prs ∧ (s.badPacket c).ps = s.ps ∧
    (s.badPacket c).tc = s.tc ∧ (s.badPacket c).scF = s.scF ∧ (s.badPacket c).scP = s.scP ∧
    (s.badPacket c).fsc = s.fsc ∧ (s.badPacket c).tcu = s.tcu ∧ (s.badPacket c).tkc = s.tkc ∧
    (s.badPacket c).lsA = s.lsA ∧ (s.badPacket c).lsB = s.lsB ∧ (s.badPacket c).dram = s.dram ∧
    (s.badPacket c).wordErrors = s.wordErrors ∧ (s.badPacket c).freeTick = s.freeTick ∧
    (s.badPacket c).pending = s.pending := by
  unfold State.badPacket; split <;> simp

@[simp] theorem State.directivePacket_frame (s : State) (classByte code tag : Byte) (args : List Byte) :
    (s.directivePacket classByte code tag args).prs = s.prs ∧
    (s.directivePacket classByte code tag args).ps = s.ps ∧ (s.directivePacket classByte code tag args).tc = s.tc ∧
    (s.directivePacket classByte code tag args).scF = s.scF ∧
    (s.directivePacket classByte code tag args).scP = s.scP ∧
    (s.directivePacket classByte code tag args).fsc = s.fsc ∧
    (s.directivePacket classByte code tag args).tcu = s.tcu ∧
    (s.directivePacket classByte code tag args).tkc = s.tkc ∧
    (s.directivePacket classByte code tag args).dram = s.dram ∧
    (s.directivePacket classByte code tag args).wordErrors = s.wordErrors ∧
    (s.directivePacket classByte code tag args).freeTick = s.freeTick ∧
    (s.directivePacket classByte code tag args).pending = s.pending := by
  unfold State.directivePacket; split <;> simp

@[simp] theorem State.appendEntry_frame (s : State) (e : FifoEntry) :
    (s.appendEntry e).du = s.du ∧ (s.appendEntry e).prs = s.prs ∧ (s.appendEntry e).tc = s.tc ∧
    (s.appendEntry e).scF = s.scF ∧ (s.appendEntry e).tcu = s.tcu ∧ (s.appendEntry e).dram = s.dram ∧
    (s.appendEntry e).pending = s.pending := by
  simp [State.appendEntry]

@[simp] theorem State.appendEnd_frame (s : State) :
    (s.appendEnd).du = s.du ∧ (s.appendEnd).prs = s.prs ∧ (s.appendEnd).tc = s.tc ∧ (s.appendEnd).scF = s.scF ∧
    (s.appendEnd).tcu = s.tcu ∧ (s.appendEnd).dram = s.dram ∧ (s.appendEnd).pending = s.pending := by
  unfold State.appendEnd; split <;> simp

@[simp] theorem State.countConcealed_frame (s : State) (n : Nat) :
    (s.countConcealed n).du = s.du ∧ (s.countConcealed n).prs = s.prs ∧ (s.countConcealed n).ps = s.ps ∧
    (s.countConcealed n).tc = s.tc ∧ (s.countConcealed n).scF = s.scF ∧ (s.countConcealed n).scP = s.scP ∧
    (s.countConcealed n).fsc = s.fsc ∧ (s.countConcealed n).tcu = s.tcu ∧ (s.countConcealed n).tkc = s.tkc ∧
    (s.countConcealed n).lsA = s.lsA ∧ (s.countConcealed n).lsB = s.lsB ∧ (s.countConcealed n).dram = s.dram ∧
    (s.countConcealed n).wordErrors = s.wordErrors ∧ (s.countConcealed n).freeTick = s.freeTick ∧
    (s.countConcealed n).pending = s.pending := by
  simp [State.countConcealed]

@[simp] theorem State.truncate_frame (s : State) :
    (s.truncate).du = s.du ∧ (s.truncate).prs = s.prs ∧ (s.truncate).tc = s.tc ∧ (s.truncate).scF = s.scF ∧
    (s.truncate).tcu = s.tcu ∧ (s.truncate).dram = s.dram ∧ (s.truncate).pending = s.pending := by
  unfold State.truncate; split <;> simp

@[simp] theorem State.keepPicture_frame (s : State) (source tiles : Nat) (linkSeq : BitVec 16) (openLost : Bool) :
    (s.keepPicture source tiles linkSeq openLost).du = s.du ∧
    (s.keepPicture source tiles linkSeq openLost).prs = s.prs ∧
    (s.keepPicture source tiles linkSeq openLost).tc = s.tc ∧
    (s.keepPicture source tiles linkSeq openLost).scF = s.scF ∧
    (s.keepPicture source tiles linkSeq openLost).tcu = s.tcu ∧
    (s.keepPicture source tiles linkSeq openLost).dram = s.dram ∧
    (s.keepPicture source tiles linkSeq openLost).pending = s.pending := by
  simp [State.keepPicture]

@[simp] theorem State.makeDropped_frame (s : State) (source : Nat) (linkSeq : BitVec 16) :
    (s.makeDropped source linkSeq).du = s.du ∧ (s.makeDropped source linkSeq).prs = s.prs ∧
    (s.makeDropped source linkSeq).ps = s.ps ∧ (s.makeDropped source linkSeq).tc = s.tc ∧
    (s.makeDropped source linkSeq).scF = s.scF ∧ (s.makeDropped source linkSeq).scP = s.scP ∧
    (s.makeDropped source linkSeq).fsc = s.fsc ∧ (s.makeDropped source linkSeq).tcu = s.tcu ∧
    (s.makeDropped source linkSeq).tkc = s.tkc ∧ (s.makeDropped source linkSeq).lsA = s.lsA ∧
    (s.makeDropped source linkSeq).lsB = s.lsB ∧ (s.makeDropped source linkSeq).dram = s.dram ∧
    (s.makeDropped source linkSeq).wordErrors = s.wordErrors ∧
    (s.makeDropped source linkSeq).freeTick = s.freeTick ∧ (s.makeDropped source linkSeq).pending = s.pending := by
  simp [State.makeDropped]

@[simp] theorem State.noteGeometry_frame (s : State) (source w h : Nat) :
    (s.noteGeometry source w h).du = s.du ∧ (s.noteGeometry source w h).prs = s.prs ∧
    (s.noteGeometry source w h).ps = s.ps ∧ (s.noteGeometry source w h).tc = s.tc ∧
    (s.noteGeometry source w h).scF = s.scF ∧ (s.noteGeometry source w h).scP = s.scP ∧
    (s.noteGeometry source w h).fsc = s.fsc ∧ (s.noteGeometry source w h).tcu = s.tcu ∧
    (s.noteGeometry source w h).tkc = s.tkc ∧ (s.noteGeometry source w h).dram = s.dram ∧
    (s.noteGeometry source w h).wordErrors = s.wordErrors ∧ (s.noteGeometry source w h).freeTick = s.freeTick ∧
    (s.noteGeometry source w h).pending = s.pending := by
  unfold State.noteGeometry; split <;> simp

@[simp] theorem State.noteCapacity_frame (s : State) (source : Nat) (r : CapacityReason) :
    (s.noteCapacity source r).du = s.du ∧ (s.noteCapacity source r).prs = s.prs ∧
    (s.noteCapacity source r).ps = s.ps ∧ (s.noteCapacity source r).tc = s.tc ∧
    (s.noteCapacity source r).scF = s.scF ∧ (s.noteCapacity source r).scP = s.scP ∧
    (s.noteCapacity source r).fsc = s.fsc ∧ (s.noteCapacity source r).tcu = s.tcu ∧
    (s.noteCapacity source r).tkc = s.tkc ∧ (s.noteCapacity source r).dram = s.dram ∧
    (s.noteCapacity source r).wordErrors = s.wordErrors ∧ (s.noteCapacity source r).freeTick = s.freeTick ∧
    (s.noteCapacity source r).pending = s.pending := by
  unfold State.noteCapacity; (repeat' split) <;> simp

@[simp] theorem State.noteNoProfile_frame (s : State) :
    (s.noteNoProfile).du = s.du ∧ (s.noteNoProfile).prs = s.prs ∧ (s.noteNoProfile).ps = s.ps ∧
    (s.noteNoProfile).tc = s.tc ∧ (s.noteNoProfile).scF = s.scF ∧ (s.noteNoProfile).scP = s.scP ∧
    (s.noteNoProfile).fsc = s.fsc ∧ (s.noteNoProfile).tcu = s.tcu ∧ (s.noteNoProfile).tkc = s.tkc ∧
    (s.noteNoProfile).lsA = s.lsA ∧ (s.noteNoProfile).lsB = s.lsB ∧ (s.noteNoProfile).dram = s.dram ∧
    (s.noteNoProfile).wordErrors = s.wordErrors ∧ (s.noteNoProfile).freeTick = s.freeTick ∧
    (s.noteNoProfile).pending = s.pending := by
  simp [State.noteNoProfile]

@[simp] theorem State.openEvent_frame (s : State) (source : Nat) (kept : Bool) :
    (s.openEvent source kept).du = s.du ∧ (s.openEvent source kept).prs = s.prs ∧
    (s.openEvent source kept).tc = s.tc ∧ (s.openEvent source kept).scF = s.scF ∧
    (s.openEvent source kept).dram = s.dram ∧ (s.openEvent source kept).wordErrors = s.wordErrors ∧
    (s.openEvent source kept).freeTick = s.freeTick ∧ (s.openEvent source kept).pending = s.pending := by
  simp [State.openEvent]

@[simp] theorem State.admitPicture_frame (s : State) (source : Nat) (linkSeq : BitVec 16) (openLost : Bool) (x0 : Decision) :
    (s.admitPicture source linkSeq openLost x0).du = s.du ∧
    (s.admitPicture source linkSeq openLost x0).prs = s.prs ∧
    (s.admitPicture source linkSeq openLost x0).tc = s.tc ∧
    (s.admitPicture source linkSeq openLost x0).scF = s.scF ∧
    (s.admitPicture source linkSeq openLost x0).tcu = s.tcu ∧
    (s.admitPicture source linkSeq openLost x0).dram = s.dram ∧
    (s.admitPicture source linkSeq openLost x0).pending = s.pending := by
  unfold State.admitPicture; split <;> simp

@[simp] theorem State.openPicture_frame (s : State) (linkSeq : BitVec 16) (dims : Option (Nat × Nat)) (openLost : Bool) :
    (s.openPicture linkSeq dims openLost).du = s.du ∧ (s.openPicture linkSeq dims openLost).prs = s.prs ∧
    (s.openPicture linkSeq dims openLost).tc = s.tc ∧ (s.openPicture linkSeq dims openLost).scF = s.scF ∧
    (s.openPicture linkSeq dims openLost).dram = s.dram ∧
    (s.openPicture linkSeq dims openLost).pending = s.pending := by
  simp [State.openPicture]

@[simp] theorem State.stalePacket_frame (s : State) :
    (s.stalePacket).du = s.du ∧ (s.stalePacket).prs = s.prs ∧ (s.stalePacket).ps = s.ps ∧
    (s.stalePacket).tc = s.tc ∧ (s.stalePacket).scF = s.scF ∧ (s.stalePacket).scP = s.scP ∧
    (s.stalePacket).fsc = s.fsc ∧ (s.stalePacket).tcu = s.tcu ∧ (s.stalePacket).tkc = s.tkc ∧
    (s.stalePacket).lsA = s.lsA ∧ (s.stalePacket).lsB = s.lsB ∧ (s.stalePacket).dram = s.dram ∧
    (s.stalePacket).wordErrors = s.wordErrors ∧ (s.stalePacket).freeTick = s.freeTick ∧
    (s.stalePacket).pending = s.pending := by
  simp [State.stalePacket]

@[simp] theorem State.takeOpen_frame (s : State) (linkSeq seqCopy w h : BitVec 16) :
    (s.takeOpen linkSeq seqCopy w h).du = s.du ∧ (s.takeOpen linkSeq seqCopy w h).prs = s.prs ∧
    (s.takeOpen linkSeq seqCopy w h).tc = s.tc ∧ (s.takeOpen linkSeq seqCopy w h).scF = s.scF ∧
    (s.takeOpen linkSeq seqCopy w h).dram = s.dram ∧ (s.takeOpen linkSeq seqCopy w h).pending = s.pending := by
  simp only [State.takeOpen]; (repeat' split) <;> simp

@[simp] theorem State.countReceived_frame (s : State) :
    (s.countReceived).du = s.du ∧ (s.countReceived).prs = s.prs ∧ (s.countReceived).ps = s.ps ∧
    (s.countReceived).tc = s.tc ∧ (s.countReceived).scF = s.scF ∧ (s.countReceived).scP = s.scP ∧
    (s.countReceived).fsc = s.fsc ∧ (s.countReceived).tcu = s.tcu ∧ (s.countReceived).tkc = s.tkc ∧
    (s.countReceived).lsA = s.lsA ∧ (s.countReceived).lsB = s.lsB ∧ (s.countReceived).dram = s.dram ∧
    (s.countReceived).wordErrors = s.wordErrors ∧ (s.countReceived).freeTick = s.freeTick ∧
    (s.countReceived).pending = s.pending := by
  simp [State.countReceived]

@[simp] theorem State.loseTile_frame (s : State) :
    (s.loseTile).du = s.du ∧ (s.loseTile).prs = s.prs ∧ (s.loseTile).ps = s.ps ∧ (s.loseTile).tc = s.tc ∧
    (s.loseTile).scF = s.scF ∧ (s.loseTile).scP = s.scP ∧ (s.loseTile).fsc = s.fsc ∧ (s.loseTile).tcu = s.tcu ∧
    (s.loseTile).tkc = s.tkc ∧ (s.loseTile).dram = s.dram ∧ (s.loseTile).wordErrors = s.wordErrors ∧
    (s.loseTile).freeTick = s.freeTick ∧ (s.loseTile).pending = s.pending := by
  unfold State.loseTile; split <;> simp

@[simp] theorem State.endIfLast_frame (s : State) (position : Nat) :
    (s.endIfLast position).du = s.du ∧ (s.endIfLast position).prs = s.prs ∧ (s.endIfLast position).tc = s.tc ∧
    (s.endIfLast position).scF = s.scF ∧ (s.endIfLast position).tcu = s.tcu ∧
    (s.endIfLast position).dram = s.dram ∧ (s.endIfLast position).pending = s.pending := by
  unfold State.endIfLast; split <;> simp

@[simp] theorem State.appendTile_frame (s : State) (position : Nat) (samples : List Sample) :
    (s.appendTile position samples).du = s.du ∧ (s.appendTile position samples).prs = s.prs ∧
    (s.appendTile position samples).tc = s.tc ∧ (s.appendTile position samples).scF = s.scF ∧
    (s.appendTile position samples).tcu = s.tcu ∧ (s.appendTile position samples).dram = s.dram ∧
    (s.appendTile position samples).pending = s.pending := by
  simp [State.appendTile]

@[simp] theorem State.coverGap_frame (s : State) (position : Nat) :
    (s.coverGap position).du = s.du ∧ (s.coverGap position).prs = s.prs ∧ (s.coverGap position).tc = s.tc ∧
    (s.coverGap position).scF = s.scF ∧ (s.coverGap position).tcu = s.tcu ∧ (s.coverGap position).dram = s.dram ∧
    (s.coverGap position).pending = s.pending := by
  simp [State.coverGap]

@[simp] theorem State.placeTile_frame (s : State) (position : Nat) (samples : List Sample) :
    (s.placeTile position samples).du = s.du ∧ (s.placeTile position samples).prs = s.prs ∧
    (s.placeTile position samples).tc = s.tc ∧ (s.placeTile position samples).scF = s.scF ∧
    (s.placeTile position samples).tcu = s.tcu ∧ (s.placeTile position samples).dram = s.dram ∧
    (s.placeTile position samples).pending = s.pending := by
  unfold State.placeTile; (repeat' split) <;> simp

@[simp] theorem State.currentTile_frame (s : State) (position : Nat) (samples : List Sample) :
    (s.currentTile position samples).du = s.du ∧ (s.currentTile position samples).prs = s.prs ∧
    (s.currentTile position samples).tc = s.tc ∧ (s.currentTile position samples).scF = s.scF ∧
    (s.currentTile position samples).tcu = s.tcu ∧ (s.currentTile position samples).dram = s.dram ∧
    (s.currentTile position samples).pending = s.pending := by
  unfold State.currentTile; (repeat' split) <;> simp

@[simp] theorem State.takeTile_frame (s : State) (linkSeq position : BitVec 16) (bytes : List Byte) :
    (s.takeTile linkSeq position bytes).du = s.du ∧ (s.takeTile linkSeq position bytes).prs = s.prs ∧
    (s.takeTile linkSeq position bytes).tc = s.tc ∧ (s.takeTile linkSeq position bytes).scF = s.scF ∧
    (s.takeTile linkSeq position bytes).dram = s.dram ∧ (s.takeTile linkSeq position bytes).pending = s.pending := by
  simp only [State.takeTile]; (repeat' split) <;> simp

@[simp] theorem State.compareClose_frame (s : State) (count : Nat) :
    (s.compareClose count).du = s.du ∧ (s.compareClose count).prs = s.prs ∧ (s.compareClose count).ps = s.ps ∧
    (s.compareClose count).tc = s.tc ∧ (s.compareClose count).scF = s.scF ∧ (s.compareClose count).scP = s.scP ∧
    (s.compareClose count).fsc = s.fsc ∧ (s.compareClose count).tcu = s.tcu ∧ (s.compareClose count).tkc = s.tkc ∧
    (s.compareClose count).lsA = s.lsA ∧ (s.compareClose count).lsB = s.lsB ∧
    (s.compareClose count).dram = s.dram ∧ (s.compareClose count).wordErrors = s.wordErrors ∧
    (s.compareClose count).freeTick = s.freeTick ∧ (s.compareClose count).pending = s.pending := by
  unfold State.compareClose; split <;> simp

@[simp] theorem State.unmatchedClose_frame (s : State) :
    (s.unmatchedClose).du = s.du ∧ (s.unmatchedClose).prs = s.prs ∧ (s.unmatchedClose).ps = s.ps ∧
    (s.unmatchedClose).tc = s.tc ∧ (s.unmatchedClose).scF = s.scF ∧ (s.unmatchedClose).scP = s.scP ∧
    (s.unmatchedClose).fsc = s.fsc ∧ (s.unmatchedClose).tcu = s.tcu ∧ (s.unmatchedClose).tkc = s.tkc ∧
    (s.unmatchedClose).lsA = s.lsA ∧ (s.unmatchedClose).lsB = s.lsB ∧ (s.unmatchedClose).dram = s.dram ∧
    (s.unmatchedClose).wordErrors = s.wordErrors ∧ (s.unmatchedClose).freeTick = s.freeTick ∧
    (s.unmatchedClose).pending = s.pending := by
  simp [State.unmatchedClose]

@[simp] theorem State.takeClose_frame (s : State) (linkSeq count : BitVec 16) :
    (s.takeClose linkSeq count).du = s.du ∧ (s.takeClose linkSeq count).prs = s.prs ∧
    (s.takeClose linkSeq count).ps = s.ps ∧ (s.takeClose linkSeq count).tc = s.tc ∧
    (s.takeClose linkSeq count).scF = s.scF ∧ (s.takeClose linkSeq count).scP = s.scP ∧
    (s.takeClose linkSeq count).fsc = s.fsc ∧ (s.takeClose linkSeq count).tcu = s.tcu ∧
    (s.takeClose linkSeq count).tkc = s.tkc ∧ (s.takeClose linkSeq count).lsA = s.lsA ∧
    (s.takeClose linkSeq count).lsB = s.lsB ∧ (s.takeClose linkSeq count).dram = s.dram ∧
    (s.takeClose linkSeq count).wordErrors = s.wordErrors ∧ (s.takeClose linkSeq count).freeTick = s.freeTick ∧
    (s.takeClose linkSeq count).pending = s.pending := by
  simp only [State.takeClose]; (repeat' split) <;> simp

@[simp] theorem State.pendProfile_frame (s : State) (st : Stream) (r : ProfileRec) :
    (s.pendProfile st r).ti = s.ti ∧ (s.pendProfile st r).du = s.du ∧ (s.pendProfile st r).ps = s.ps ∧
    (s.pendProfile st r).tc = s.tc ∧ (s.pendProfile st r).fsc = s.fsc ∧ (s.pendProfile st r).tcu = s.tcu ∧
    (s.pendProfile st r).tkc = s.tkc ∧ (s.pendProfile st r).lsA = s.lsA ∧ (s.pendProfile st r).lsB = s.lsB ∧
    (s.pendProfile st r).dram = s.dram ∧ (s.pendProfile st r).wordErrors = s.wordErrors ∧
    (s.pendProfile st r).freeTick = s.freeTick ∧ (s.pendProfile st r).pending = s.pending := by
  simp [State.pendProfile]

@[simp] theorem State.pendLadder_frame (s : State) (st : Stream) (steps : List Nat) :
    (s.pendLadder st steps).ti = s.ti ∧ (s.pendLadder st steps).du = s.du ∧ (s.pendLadder st steps).ps = s.ps ∧
    (s.pendLadder st steps).tc = s.tc ∧ (s.pendLadder st steps).fsc = s.fsc ∧ (s.pendLadder st steps).tcu = s.tcu ∧
    (s.pendLadder st steps).tkc = s.tkc ∧ (s.pendLadder st steps).lsA = s.lsA ∧
    (s.pendLadder st steps).lsB = s.lsB ∧ (s.pendLadder st steps).dram = s.dram ∧
    (s.pendLadder st steps).wordErrors = s.wordErrors ∧ (s.pendLadder st steps).freeTick = s.freeTick ∧
    (s.pendLadder st steps).pending = s.pending := by
  simp [State.pendLadder]

@[simp] theorem State.useSerial_frame (s : State) :
    (s.useSerial).ti = s.ti ∧ (s.useSerial).du = s.du ∧ (s.useSerial).ps = s.ps ∧ (s.useSerial).tc = s.tc ∧
    (s.useSerial).scF = s.scF ∧ (s.useSerial).scP = s.scP ∧ (s.useSerial).fsc = s.fsc ∧ (s.useSerial).tcu = s.tcu ∧
    (s.useSerial).tkc = s.tkc ∧ (s.useSerial).lsA = s.lsA ∧ (s.useSerial).lsB = s.lsB ∧
    (s.useSerial).dram = s.dram ∧ (s.useSerial).wordErrors = s.wordErrors ∧ (s.useSerial).freeTick = s.freeTick ∧
    (s.useSerial).pending = s.pending := by
  simp [State.useSerial]

@[simp] theorem State.setRing_frame (s : State) (st : Stream) (r : Ring) :
    (s.setRing st r).ti = s.ti ∧ (s.setRing st r).du = s.du ∧ (s.setRing st r).ps = s.ps ∧
    (s.setRing st r).tc = s.tc ∧ (s.setRing st r).scF = s.scF ∧ (s.setRing st r).scP = s.scP ∧
    (s.setRing st r).tcu = s.tcu ∧ (s.setRing st r).tkc = s.tkc ∧ (s.setRing st r).lsA = s.lsA ∧
    (s.setRing st r).lsB = s.lsB ∧ (s.setRing st r).dram = s.dram ∧ (s.setRing st r).wordErrors = s.wordErrors ∧
    (s.setRing st r).freeTick = s.freeTick ∧ (s.setRing st r).pending = s.pending := by
  simp [State.setRing]

@[simp] theorem State.setLaneMap_frame (s : State) (m : LaneMap) :
    (s.setLaneMap m).ti = s.ti ∧ (s.setLaneMap m).du = s.du ∧ (s.setLaneMap m).ps = s.ps ∧
    (s.setLaneMap m).tc = s.tc ∧ (s.setLaneMap m).scF = s.scF ∧ (s.setLaneMap m).scP = s.scP ∧
    (s.setLaneMap m).fsc = s.fsc ∧ (s.setLaneMap m).tcu = s.tcu ∧ (s.setLaneMap m).tkc = s.tkc ∧
    (s.setLaneMap m).lsA = s.lsA ∧ (s.setLaneMap m).lsB = s.lsB ∧ (s.setLaneMap m).dram = s.dram ∧
    (s.setLaneMap m).wordErrors = s.wordErrors ∧ (s.setLaneMap m).freeTick = s.freeTick ∧
    (s.setLaneMap m).pending = s.pending := by
  simp [State.setLaneMap]

end Sys2Proof.Machine
end

