-- ==== Sys2Proof/Laws/Memory.lean ====
section
/-! SUPPORT. The laws of the DRAM: reads after writes, the canonical form kept, and where a ring's bytes lie. -/

namespace Sys2Proof.Machine

theorem Mem.wfFrom_mono {lo lo' : Nat} {m : List Host.Cell} (h : Mem.wfFrom lo m = true) (hl : lo' ≤ lo) :
    Mem.wfFrom lo' m = true := by
  cases m with
  | nil => rfl
  | cons c rest =>
    simp only [Mem.wfFrom, Bool.and_eq_true, decide_eq_true_eq] at h ⊢
    exact ⟨⟨⟨by omega, h.1.1.2⟩, h.1.2⟩, h.2⟩

theorem Mem.read_below {lo : Nat} {m : List Host.Cell} (h : Mem.wfFrom lo m = true) {a : Nat} (ha : a < lo) :
    Mem.read m a = unlistedByte := by
  induction m generalizing lo with
  | nil => rfl
  | cons c rest ih =>
    simp only [Mem.wfFrom, Bool.and_eq_true, decide_eq_true_eq] at h
    have hne : c.1 ≠ a := by omega
    simp only [Mem.read, hne, if_false]
    exact ih h.2 (by omega)

theorem Mem.wfFrom_put {lo : Nat} {m : List Host.Cell} (h : Mem.wfFrom lo m = true) {a : Nat} {b : Byte}
    (hlo : lo ≤ a) (ha : a < storeBytes) : Mem.wfFrom lo (Mem.put m a b) = true := by
  induction m generalizing lo with
  | nil =>
    simp only [Mem.put]
    split
    · rfl
    · simp [Mem.wfFrom, *]
  | cons c rest ih =>
    obtain ⟨x, y⟩ := c
    have h' := h
    simp only [Mem.wfFrom, Bool.and_eq_true, decide_eq_true_eq] at h
    obtain ⟨⟨⟨h1, h2⟩, h3⟩, h4⟩ := h
    simp only [Mem.put]
    split
    · split
      · exact h'
      · simp only [Mem.wfFrom, Bool.and_eq_true, decide_eq_true_eq]
        exact ⟨⟨⟨hlo, ha⟩, by assumption⟩, ⟨⟨⟨by omega, h2⟩, h3⟩, h4⟩⟩
    · split
      · split
        · exact Mem.wfFrom_mono h4 (by omega)
        · simp only [Mem.wfFrom, Bool.and_eq_true, decide_eq_true_eq]
          subst_vars
          exact ⟨⟨⟨h1, h2⟩, by assumption⟩, h4⟩
      · simp only [Mem.wfFrom, Bool.and_eq_true, decide_eq_true_eq]
        exact ⟨⟨⟨h1, h2⟩, h3⟩, ih h4 (by omega)⟩

theorem Mem.read_put {lo : Nat} {m : List Host.Cell} (h : Mem.wfFrom lo m = true) (a x : Nat) (b : Byte) :
    Mem.read (Mem.put m a b) x = if a = x then b else Mem.read m x := by
  induction m generalizing lo with
  | nil =>
    simp only [Mem.put]
    split <;> simp only [Mem.read]
    split <;> simp_all
  | cons c rest ih =>
    obtain ⟨y, z⟩ := c
    simp only [Mem.wfFrom, Bool.and_eq_true, decide_eq_true_eq] at h
    obtain ⟨_, h4⟩ := h
    simp only [Mem.put]
    split
    · rename_i hlt
      split
      · rename_i hb
        split
        · subst_vars
          have hne : y ≠ x := by omega
          simp only [Mem.read, hne, if_false]
          exact Mem.read_below h4 (by omega)
        · rfl
      · simp only [Mem.read]
    · by_cases hay : a = y
      · subst hay
        rw [if_pos rfl]
        by_cases hx : a = x
        · subst hx
          split
          · rw [Mem.read_below h4 (by omega)]
            simp_all
          · simp [Mem.read]
        · split <;> simp [Mem.read, hx]
      · rw [if_neg hay]
        simp only [Mem.read]
        by_cases hy : y = x
        · have : a ≠ x := by omega
          simp [hy, this]
        · simp [hy, ih h4]

theorem Mem.wf_write {m : List Host.Cell} (h : Mem.wf m = true) (a : Nat) (b : Byte) :
    Mem.wf (Mem.write m a b) = true := by
  unfold Mem.write
  split
  · exact Mem.wfFrom_put h (Nat.zero_le a) ‹_›
  · exact h

theorem Mem.read_write {m : List Host.Cell} (h : Mem.wf m = true) {a : Nat} (ha : a < storeBytes) (x : Nat)
    (b : Byte) : Mem.read (Mem.write m a b) x = if a = x then b else Mem.read m x := by
  rw [Mem.write, if_pos ha]
  exact Mem.read_put h a x b

theorem Mem.read_write_other {m : List Host.Cell} (h : Mem.wf m = true) {a x : Nat} (hx : a ≠ x) (b : Byte) :
    Mem.read (Mem.write m a b) x = Mem.read m x := by
  unfold Mem.write
  split
  · rw [Mem.read_put h, if_neg hx]
  · rfl

theorem Mem.wf_writeRing (r : Ring) {m : List Host.Cell} (h : Mem.wf m = true) (x : Nat) (bytes : List Byte) :
    Mem.wf (Mem.writeRing r m x bytes) = true := by
  induction bytes generalizing m x with
  | nil => exact h
  | cons b rest ih => exact ih (Mem.wf_write h _ _) _

/-- A ring's addresses lie in its own pages. -/
theorem Ring.address_bounds (r : Ring) (h : 1 ≤ r.pages) (x : Nat) :
    r.base * pageBytes ≤ r.address x ∧ r.address x < (r.base + r.pages) * pageBytes := by
  have hp : 0 < r.bytes := Nat.mul_pos (by omega) (by decide)
  have hm := Nat.mod_lt x hp
  unfold Ring.address
  unfold Ring.bytes at hm ⊢
  constructor
  · omega
  · rw [Nat.add_mul]; omega

/-- A write into a ring leaves every address outside the ring's pages as it was. -/
theorem Mem.read_writeRing_outside (r : Ring) (hr : 1 ≤ r.pages) {m : List Host.Cell} (h : Mem.wf m = true) (x : Nat)
    (bytes : List Byte) (a : Nat) (ha : a < r.base * pageBytes ∨ (r.base + r.pages) * pageBytes ≤ a) :
    Mem.read (Mem.writeRing r m x bytes) a = Mem.read m a := by
  induction bytes generalizing m x with
  | nil => rfl
  | cons b rest ih =>
    have hb := r.address_bounds hr x
    rw [Mem.writeRing, ih (Mem.wf_write h _ _), Mem.read_write_other h (by omega)]

end Sys2Proof.Machine
end

