-- ==== Sys2Proof/Tests/Slice0.lean ====
section
/-! SUPPORT. Tests of the model: well-formedness, the spec's worked examples, small runs of the commands, and for each
obligation with hypotheses a state and operands that meet them (`witness_…`). -/

open Sys2Proof Sys2Proof.Machine

namespace Sys2Proof.Tests

-- One theorem at a time: the many short kernel checks here would otherwise each wait in a thread of its own.
set_option Elab.async false

/-! ## Helpers -/

/-- The state after a command. -/
def after (c : Instr) (s : State) : State :=
  match exec c s with
  | .next t => t
  | .fault _ | .refused _ => s

/-- A directive with tag 7 at the head of the Directive FIFO of a state. -/
def withHead (k : DirKind) (cls : SourceClass) (args : List Byte) (s : State) : State :=
  { s with du := { s.du with fifo := [⟨cls, k.code, 7, args⟩] } }

/-- The state after a console directive has been executed. -/
def run (k : DirKind) (args : List Byte) (s : State) : State := after k.command (withHead k .console args s)

/-- The reply code of a report. -/
def Report.code? : Report → Option ReplyCode
  | .reply _ _ _ rc _ => some rc
  | .notice _ => none

/-- The reply code a console directive gets on Lane A, whether it is being sent or queued. -/
def replyOf (k : DirKind) (args : List Byte) (s : State) : Option ReplyCode :=
  let x := (run k args { s with lsA := {} }).lsA
  match x.tx, x.queue with
  | some (.report r), _ => Report.code? r.report
  | _, r :: _ => Report.code? r.report
  | _, [] => none

theorem head_accepts (k : DirKind) (cls : SourceClass) (args : List Byte) (s : State)
    (h : k.check ⟨cls, k.code, 7, args⟩ = none) : (withHead k cls args s).accepts k ⟨cls, k.code, 7, args⟩ [] :=
  ⟨rfl, rfl, h⟩

/-- Arguments of LOAD PROFILE for stream F (Table 11-4). -/
def fArgs (rateCode w h rate c qlo qstart qhi stride : Nat) : List Byte :=
  be 1 0 ++ be 1 rateCode ++ be 2 w ++ be 2 h ++ be 4 rate ++ be 4 c ++ be 1 qlo ++ be 1 qstart ++ be 1 qhi ++
    be 1 stride

/-- Arguments of LOAD PROFILE for stream P (Table 11-4). -/
def pArgs (rateCode k d n rate c qlo qstart qhi stride : Nat) : List Byte :=
  be 1 1 ++ be 1 rateCode ++ be 1 k ++ be 1 d ++ be 1 n ++ be 1 0 ++ be 4 rate ++ be 4 c ++ be 1 qlo ++
    be 1 qstart ++ be 1 qhi ++ be 1 stride

def ringArgs (st base pages : Nat) : List Byte := be 1 st ++ be 2 base ++ be 4 pages

def ladderArgs (st : Nat) (steps : List Nat) : List Byte := be 1 st ++ be 1 steps.length ++ steps.flatMap (be 2)

/-- Rings and ladders of both streams loaded, as in 1.2.2: 92 and 7 pages, 32 rungs. -/
def loaded : State :=
  run .loadLadder (ladderArgs 1 ((List.range 32).map (· + 1)))
    (run .loadLadder (ladderArgs 0 ((List.range 32).map (· + 1)))
      (run .setRing (ringArgs 1 92 7) (run .setRing (ringArgs 0 0 92) State.reset)))

/-- A record of two tile rows of `across` tiles, for states that a test needs small. -/
def small (across : Nat) : ProfileRec :=
  { valid := true, serial := 1, width := 64 * across, height := 16, scale := 1, decimation := 1, share := 2
    rateCode := 2, rate := 10000, ceiling := 6000, qlo := 0, qstart := 1, qhi := 3, stride := 2
    tilesAcross := across, rows := 2, tiles := 2 * across, padLines := 0, target := 4000, rowTarget := 2000
    reservation := 6080 }

/-- Stream F ready: its context READY, and a whole small picture at the head of the FIFO. -/
def readyForF : State :=
  { State.reset with
    prs := { f := { profile := some (small 1), ladder := some [1, 2, 3, 4], ring := some ⟨0, 1⟩ } }
    scF := { ws := { state := .ready, q := 1 } }
    ti := { fifo := [.openE 5, .runE 0 2, .endE 5 false false true]
            table := [{ source := 5, frStamp := {}, concealed := true }] } }

/-- A picture open on an otherwise empty part: link sequence 9, source number 4, one tile row of two taken in. -/
def opened : State :=
  { State.reset with
    prs := { f := { profile := some (small 1) } }
    ti := { link := .locked, status := .opened, linkSeq := 9, source := 4, tiles := 2, expected := 1, received := 1
            nextSource := 5, fifo := [.openE 4, .runE 0 1], table := [{ source := 4, frStamp := {} }] } }

/-- A directory entry of a P unit of 100 bytes. -/
def unitEntry : DirEntry := { source := 3, offset := 0, length := 100, rows := 2, frStamp := {}, needA := true }

/-- Lane A with a unit at its head, no credit, and the unit's entry in the P ring. -/
def onLane : State :=
  { State.reset with
    prs := { p := { ring := some ⟨0, 1⟩ } }
    fsc := { p := { dir := [unitEntry], allocated := 2, head := 2 } }
    lsA := { items := [.unit .p 3] } }

/-- A take that is OPEN, on a part that is RECORDING. -/
def openTake : TakeRec := { number := 1, s0 := 4, pActual := 0, s := 4, mode := .freeRun, aF := true, aP := true, bP := false }

def recording : State := { State.reset with tkc := { ctl := .recording, nextTake := 2, takes := [openTake], lastOpen := some 6 } }

/-! ## Well-formedness: what the Tile Link cannot carry is refused -/

theorem test_tile_of_1280_bytes : (Instr.tilePacket 0 0 (List.replicate 1280 0)).wellFormed = true := by decide +kernel
theorem test_tile_of_1279_bytes_refused : (Instr.tilePacket 0 0 (List.replicate 1279 0)).wellFormed = false := by
  decide +kernel
theorem test_directive_of_1534_bytes : (Instr.directivePacket 1 1 0 (List.replicate 1534 0)).wellFormed = true := by
  decide +kernel
theorem test_directive_of_1535_bytes_refused :
    (Instr.directivePacket 1 1 0 (List.replicate 1535 0)).wellFormed = false := by decide +kernel

/-! ## The spec's worked examples -/

/-- R192: the check values over the nine bytes 0x31 to 0x39. -/
theorem test_crc16_check : crc16 [0x31, 0x32, 0x33, 0x34, 0x35, 0x36, 0x37, 0x38, 0x39] = 0x29B1#16 := by decide +kernel
theorem test_crc32_check : crc32 [0x31, 0x32, 0x33, 0x34, 0x35, 0x36, 0x37, 0x38, 0x39] = 0xCBF43926#32 := by
  decide +kernel

/-- Table 7-2. -/
theorem test_label_advances :
    Label.advance ⟨10, 14, 59, 24⟩ 25 false = ⟨10, 15, 0, 0⟩ ∧ Label.advance ⟨23, 59, 59, 24⟩ 25 false = ⟨0, 0, 0, 0⟩ ∧
    Label.advance ⟨0, 0, 59, 29⟩ 30 true = ⟨0, 1, 0, 2⟩ ∧ Label.advance ⟨0, 1, 0, 2⟩ 30 true = ⟨0, 1, 0, 3⟩ ∧
    Label.advance ⟨0, 9, 59, 29⟩ 30 true = ⟨0, 10, 0, 0⟩ ∧ Label.advance ⟨23, 59, 59, 29⟩ 30 true = ⟨0, 0, 0, 0⟩ ∧
    Label.advance ⟨0, 0, 59, 59⟩ 60 true = ⟨0, 1, 0, 4⟩ ∧ Label.advance ⟨0, 19, 59, 59⟩ 60 true = ⟨0, 20, 0, 0⟩ ∧
    Label.advance ⟨1, 0, 0, 23⟩ 24 false = ⟨1, 0, 1, 0⟩ := by decide

/-- 1.2.2, stream F: T, t, E_0, E_1, the reservation, its granules, and the ring that just holds two. -/
theorem test_figures_of_stream_f :
    (let r := (fSettings (fArgs 0 3840 2160 400000 3000000 4 10 24 2)).record true 0
     (r.tilesAcross, r.rows, r.tiles, r.target, r.rowTarget, r.expected 0, r.expected 1) =
       (60, 270, 16200, 2085416, 7723, 7723, 15447) ∧ (r.reservation, r.granules) = (3001152, 46893) ∧
     holdsTwo ⟨0, 92⟩ r.rows r.ceiling = true ∧ holdsTwo ⟨0, 91⟩ r.rows r.ceiling = false) ∧
    replyOf .loadProfile (fArgs 0 3840 2160 400000 3000000 4 10 24 2) loaded = some .done ∧
    replyOf .loadProfile (fArgs 0 3840 2160 800000 3000000 4 10 24 2) loaded = some .doneClamped := by decide +kernel

/-- 1.2.2, stream P over that profile. -/
theorem test_figures_of_stream_p :
    (let r := (pSettings (pArgs 0 3 2 4 8000 200000 4 10 24 2) 3840 2160).record true 0
     (r.width, r.height, r.rows, r.tiles, r.target, r.rowTarget) = (1280, 720, 90, 1800, 83416, 926) ∧
     (r.reservation, r.granules) = (200448, 3132) ∧ holdsTwo ⟨0, 7⟩ r.rows r.ceiling = true ∧
     holdsTwo ⟨0, 6⟩ r.rows r.ceiling = false) ∧
    replyOf .loadProfile (pArgs 0 3 2 4 8000 200000 4 10 24 2)
      (run .loadProfile (fArgs 0 3840 2160 400000 3000000 4 10 24 2) loaded) = some .done := by decide +kernel

/-- Table 7-4, at base 30 with drop on. -/
theorem test_jam_labels :
    (let s := run .setTimecode [30, 1, 0] State.reset
     (replyOf .jam [0, 1, 0, 1, 0] s, (run .jam [0, 1, 0, 1, 0] s).tcu.jam) =
       (some .doneClamped, some ⟨⟨0, 1, 0, 2⟩, false⟩) ∧
     (replyOf .jam [0, 10, 0, 0, 1] s, (run .jam [0, 10, 0, 0, 1] s).tcu.jam) =
       (some .done, some ⟨⟨0, 10, 0, 0⟩, true⟩) ∧
     replyOf .jam [0, 1, 1, 0, 0] s = some .done ∧ replyOf .jam [0, 1, 0, 30, 0] s = some .refusedRange ∧
     replyOf .jam [24, 0, 0, 0, 0] s = some .refusedRange) := by decide +kernel

/-- R44: the rounding of a block's mean at k = 2, 3 and 4. -/
theorem test_box_values :
    boxValue 2 6 = 2 ∧ boxValue 2 5 = 1 ∧ boxValue 3 13 = 1 ∧ boxValue 3 14 = 2 ∧ boxValue 4 16368 = 1023 := by decide

/-- R193: samples are packed most significant bit first, four in five bytes. -/
theorem test_sample_packing :
    unpackSamples [0xFF, 0xC0, 0x00, 0x04, 0x01] = [1023, 0, 1, 1] ∧
    packSamples [1023, 0, 1, 1] = [0xFF, 0xC0, 0x00, 0x04, 0x01] := by decide

/-! ## The Tile Link -/

/-- The bytes of an OPEN, written out from Tables 11-1 and 11-2, for link sequence 7 and 1,280 x 720. -/
def openBytes : List Byte :=
  let h : List Byte := [1, 0, 0, 6, 0, 7, 0, 0, 0, 0]
  let p : List Byte := [0x05, 0x00, 0x02, 0xD0, 0x00, 0x07]
  [0x5A, 0x3C, 0x96, 0xF0] ++ h ++ be 2 (crc16 h).toNat ++ p ++ be 4 (crc32 p).toNat

theorem test_link_reads_open : State.reset.linkCommands openBytes = [.openPacket 7 7 1280 720] := by decide +kernel

/-- A packet whose CRC-32 fails is a bad packet; a stream that goes on without a sync word is a header failure. -/
theorem test_link_failures :
    State.reset.linkCommands (openBytes.take 25 ++ [0xAA]) = [.badPacket .crc] ∧
    State.reset.linkCommands (openBytes ++ List.replicate 16 0) = [.openPacket 7 7 1280 720, .headerFailure] := by
  decide +kernel

/-! ## Commands -/

theorem test_reset_line :
    (after (.resetLine true) { State.reset with ti := { nextSource := 9 }, tcu := { base := 30 } }).ti.nextSource = 0 ∧
    (after (.resetLine true) State.reset).tcu.trigHigh = true := by decide +kernel
theorem test_header_failure :
    (after .headerFailure { State.reset with ti := { link := .locked, fails := 2 } }).ti.link = .hunt := by decide +kernel
theorem test_bad_packet : (after (.badPacket .crc) State.reset).ti.counters.crcFailures = 1 := by decide +kernel
theorem test_fill : (after .fillPacket State.reset).ti.link = .locked := by decide +kernel
theorem test_open_without_profile :
    (after (.openPacket 7 7 1280 720) State.reset).ti.counters.dropNoProfile = 1 ∧
    (after (.openPacket 7 7 1280 720) State.reset).ti.nextSource = 1 := by decide +kernel
theorem test_open_kept :
    (after (.openPacket 3 3 64 16) { State.reset with prs := { f := { profile := some (small 1) } } }).ti.fifo =
      [.openE 0] := by decide +kernel
theorem test_tile_of_the_wrong_length :
    (after (.tilePacket 9 1 []) opened).ti.counters.formatErrors = 1 := by decide +kernel
theorem test_last_tile_ends_the_picture :
    (after (.tilePacket 9 1 (List.replicate 1280 0)) opened).ti.status = .ended ∧
    (after (.tilePacket 9 1 (List.replicate 1280 0)) opened).ti.fifo.length = 4 := by decide +kernel
theorem test_close_mismatch :
    (after (.closePacket 9 2) opened).ti.counters.closeMismatches = 1 ∧
    ((after (.closePacket 9 2) opened).ti.table.map PicRecord.concealed) = [true] := by decide +kernel
theorem test_directive_is_held :
    (after (.directivePacket 2 9 5 [0, 3]) State.reset).du.fifo = [⟨.accessory, 9, 5, [0, 3]⟩] := by decide +kernel
theorem test_open_truncates :
    (after (.openPacket 10 10 64 16) opened).ti.fifo =
      [.openE 4, .runE 0 1, .runE 1 1, .endE 4 false true true, .openE 5] := by decide +kernel
theorem test_ref_pulse : (after .refPulse State.reset).tcu.freeRun = ⟨0, 0, 0, 1⟩ := by decide +kernel
theorem test_ref_lost :
    (after .refLost { State.reset with tcu := { opensSincePulse := 8 } }).tcu.refPresent = false := by decide +kernel
theorem test_trig_edge :
    (after (.trigEdge true) (run .setTrigger [1] State.reset)).tkc.ctl = .recording ∧
    (after (.trigEdge true) (run .setTrigger [2] State.reset)).tkc.ctl = .idle := by decide +kernel
theorem test_credit_pulse : (after (.creditPulse .b) State.reset).lsB.credit = 1 := by decide +kernel
theorem test_lane_stall :
    (after (.laneStall .a) { onLane with lsA := { onLane.lsA with stall := 32 } }).lsA.stallLatch = true := by
  decide +kernel
theorem test_report_sent :
    (after (.lanePacketSent .a) (run .arm [0, 5] State.reset)).lsA.tx = none := by decide +kernel
theorem test_arbiter_begins_a_hand_over :
    ((after .arbiterChoice readyForF).tc.turn.map Turn.handingOver) = some true := by decide +kernel

/-- The rows of a picture that was concealed whole: two turns, and a unit of 64 + 8 + 32 bytes in the F ring. -/
theorem test_picture_is_coded :
    (let s1 := after .codeTile (after .handOver (after .arbiterChoice readyForF))
     let s2 := after .codeTile (after .arbiterChoice s1)
     s1.fsc.f.rowOffsets = [72] ∧ s2.fsc.f.counters.completed = 1 ∧ s2.fsc.f.head = 2 ∧ s2.ti.fifo = [] ∧
       s2.ti.table = [] ∧ s2.scF.counters.conceals = 2 ∧
       (List.range 8).map (fun i => Mem.read s2.dram (64 + i)) = [0, 0, 0, 72, 0, 0, 0, 88]) := by decide +kernel
theorem test_entry_passed_by : (after .passByEntry readyForF).ti.fifo.length = 3 ∧
    (after .passByEntry { readyForF with ti := { readyForF.ti with fifo := [.runE 0 2] } }).ti.fifo = [] := by
  decide +kernel
theorem test_row_passed_by :
    (after .passByRow { State.reset with ps := { slot1 := some ⟨2, 1, true, []⟩ } }).ps.slot1 = none ∧
    (after .passByRow { State.reset with ps := { slot1 := some ⟨2, 1, true, []⟩ } }).scP.gap = 1 := by decide +kernel
theorem test_set_ring : replyOf .setRing (ringArgs 0 65535 1) State.reset = some .done ∧
    replyOf .setRing (ringArgs 0 65535 2) State.reset = some .refusedRange := by decide +kernel
theorem test_load_ladder : replyOf .loadLadder (ladderArgs 0 [1, 1]) State.reset = some .done ∧
    replyOf .loadLadder (ladderArgs 0 [2, 1]) State.reset = some .refusedRange := by decide +kernel
theorem test_set_lanes : replyOf .setLanes [1, 1, 1, 0, 4] State.reset = some .doneConflict ∧
    replyOf .setLanes [1, 1, 1, 1, 17] State.reset = some .refusedRange := by decide +kernel
theorem test_set_lane_b_feed : (run .setLaneBFeed [2, 9] State.reset).prs.lanes.feed = .always := by decide +kernel
theorem test_set_trigger : (run .setTrigger [3] State.reset).prs.trigger = .both := by decide +kernel
theorem test_arm : replyOf .arm [0xFF, 0xFF] State.reset = some .doneClamped ∧
    (run .arm [0xFF, 0xFF] State.reset).tkc.pmax = 1024 := by decide +kernel
theorem test_disarm : (run .disarm [] (run .arm [0, 5] State.reset)).tkc.ctl = .idle := by decide +kernel
theorem test_start : (run .start [0, 0] State.reset).tkc.ctl = .recording ∧
    replyOf .start [0, 5] State.reset = some .doneClamped := by decide +kernel
theorem test_empty_take_closes :
    ((run .stop [] (run .start [0, 0] State.reset)).tkc.takes.map TakeRec.reason) = [some .empty] ∧
    (run .stop [] (run .start [0, 0] State.reset)).lsA.items.length = 2 := by decide +kernel
theorem test_mark : replyOf .mark [0] recording = some .refusedRange ∧
    ((run .mark [9] recording).tkc.takes.map fun t => t.marks.map Mark.code) = [[9]] := by decide +kernel
theorem test_query_clears : replyOf .query [1, 1] State.reset = some .done ∧
    (run .query [1, 1] { State.reset with ti := { counters := { stale := 3 } } }).ti.counters.stale = 0 := by
  decide +kernel
theorem test_read_take : replyOf .readTake [0, 1] recording = some .done ∧
    replyOf .readTake [0, 2] recording = some .refusedRange := by decide +kernel
theorem test_clear_takes : (run .clearTakes [] recording).tkc.takes = [openTake] := by decide +kernel
theorem test_restart_of_inactive_context :
    (run .restart [0] State.reset).scF.counters.restarts = 1 ∧ replyOf .restart [0] State.reset = some .done := by
  decide +kernel
theorem test_restart_is_posted : (run .restart [0] readyForF).scF.restart = true ∧
    (run .restart [0] readyForF).lsA.tx = none := by decide +kernel
theorem test_reset_keeps_the_lane_map :
    (run .reset [] (run .setLaneBFeed [2, 9] State.reset)).prs.lanes.bmax = 9 ∧
    replyOf .reset [] recording = some .done := by decide +kernel
theorem test_unknown_directive :
    (after .unknownDirective { State.reset with du := { fifo := [⟨.console, 0x40, 0, []⟩] } }).du.counters.unknown = 1 := by
  decide +kernel
theorem test_privileged_directive_of_an_accessory :
    (after .setRing (withHead .setRing .accessory (ringArgs 0 0 9) State.reset)).du.counters.classRefusals = 1 := by
  decide +kernel

/-- R171: an open counts on a lane that waits for credit, and on no other; the 32nd without credit is a stall. -/
theorem test_stall_is_counted :
    (after (.openPacket 7 7 64 16) onLane).lsA.stall = 1 ∧ (after (.openPacket 7 7 64 16) onLane).lsB.stall = 0 ∧
    (after (.openPacket 7 7 64 16) { onLane with lsA := { onLane.lsA with stall := 31 } }).lsA.stallLatch = true := by
  decide +kernel

/-! ## Witnesses: states and operands that meet the hypotheses of the obligations -/

/-- Two rings apart, and a byte listed in the first. -/
def rings : State :=
  { State.reset with prs := { f := { ring := some ⟨0, 2⟩ }, p := { ring := some ⟨2, 1⟩ } }, dram := [(70000, 5)] }

theorem witness_StepRunsTheFrontCommand :
    { State.reset with pending := [Instr.stop, .fillPacket] }.pending = .stop :: [.fillPacket] ∧
    State.reset.pending = [] := by decide

theorem witness_DramStaysCanonical :
    Mem.wf { rings with pending := [Instr.codeTile] }.dram = true ∧
    step { rings with pending := [Instr.codeTile] } = .next rings := ⟨by decide, rfl⟩

theorem rings_apart : rings.ringsApart := by
  refine ⟨?_, ?_, ?_⟩
  · intro r h; cases h; exact ⟨by decide, by decide⟩
  · intro r h; cases h; exact ⟨by decide, by decide⟩
  · intro a b ha hb; cases ha; cases hb; decide

/-- The byte just above the second ring, and a command that is not CODE_TILE. -/
theorem witness_OnlyCodeTileWritesTheDramAndOnlyInRings :
    (Mem.wf rings.dram = true ∧ rings.ringsApart ∧ step rings = .next rings ∧ ¬ rings.inSomeRing 196608) ∧
    (Instr.handOver ≠ .codeTile ∧ exec .handOver rings = .next rings) := by
  refine ⟨⟨by decide, rings_apart, rfl, ?_⟩, by decide, rfl⟩
  rintro (⟨r, h, c⟩ | ⟨r, h, c⟩) <;> cases h <;> exact absurd c.2 (by decide)

theorem witness_RingsStayInTheStoreAndApart : rings.ringsApart ∧ step rings = .next rings := ⟨rings_apart, rfl⟩

/-- A Directive FIFO and a report queue at their bounds. -/
theorem witness_QueuesAndCountsStayBounded :
    ∃ s : State, s.du.fifo.length = 8 ∧ s.lsB.queue.length = 8 ∧ s.lsA.credit = 65535 ∧ s.queuesBounded ∧
      s.countsBounded ∧ step s = .next s := by
  refine ⟨{ State.reset with
    du := { fifo := List.replicate 8 ⟨.console, 0x0C, 0, []⟩ }
    lsA := { credit := 65535 }
    lsB := { queue := List.replicate 8 ⟨.notice (.overrun 0), 0⟩ } }, rfl, rfl, rfl, ?_, ?_, rfl⟩
  · unfold State.queuesBounded; decide
  · unfold State.countsBounded LaneSender.countsBounded; decide

/-- Base 60 with drop on, at the first label held in a minute that passes labels over. -/
theorem witness_LabelsStayValid :
    ∃ s : State, s.tcu.freeRun = ⟨0, 1, 0, 4⟩ ∧ s.tcu.drop = true ∧ s.tcu.labelsValid ∧ step s = .next s := by
  refine ⟨{ State.reset with tcu := { base := 60, drop := true, freeRun := ⟨0, 1, 0, 4⟩ } }, rfl, rfl, ?_, rfl⟩
  exact ⟨⟨by decide, fun _ => .inr rfl⟩, by decide, by decide, (fun j h => by cases h), (fun o h => by cases h),
    (fun c h => by cases h)⟩

theorem recording_oneOpenTake : recording.oneOpenTake := by unfold State.oneOpenTake; decide

/-- A take CLOSING under its number, and the part no longer recording. -/
def closingTake : TakeRec := { openTake with state := .closing, e := some 6, reason := some .stop }

def closing : State := { State.reset with tkc := { nextTake := 2, takes := [closingTake], lastOpen := some 6 } }

theorem closing_oneOpenTake : closing.oneOpenTake := by unfold State.oneOpenTake; decide

/-- A take OPEN with a stop pending while the take before it, with the last number of all, is CLOSING. -/
def stopPending : State :=
  { recording with tkc := { recording.tkc with
      takes := [{ closingTake with number := 65535 }, { openTake with stopPending := some .trigger, e := some 6 }] } }

theorem stopPending_oneOpenTake : stopPending.oneOpenTake := by unfold State.oneOpenTake; decide

theorem witness_OneTakeIsOpenOnlyWhileRecording :
    (recording.oneOpenTake ∧ step recording = .next recording) ∧ (closing.oneOpenTake ∧ step closing = .next closing) ∧
    (stopPending.oneOpenTake ∧ step stopPending = .next stopPending) :=
  ⟨⟨recording_oneOpenTake, rfl⟩, ⟨closing_oneOpenTake, rfl⟩, ⟨stopPending_oneOpenTake, rfl⟩⟩

theorem witness_PacketBytesGiveTheirCommand :
    ((Instr.openPacket 7 7 64 16).wellFormed = true ∧ ([] : List Byte).length ≤ 1536 ∧
      (commandPacket (.openPacket 7 7 64 16) 1 2 3 4 []).isSome = true ∧ classOf (2 : Byte).toNat = some .accessory ∧
      (commandPacket (.directivePacket 2 1 0 [9]) 1 2 3 4 []).isSome = true ∧
      (commandPacket .fillPacket 0 0 0 0 (List.replicate 1536 1)).isSome = true) ∧
    (∀ a b w h : BitVec 16, Instr.openPacket 7 7 64 16 = .openPacket a b w h → a = b) ∧
    (∀ (x code tag : Byte) args, Instr.directivePacket 2 1 0 [9] = .directivePacket x code tag args →
      (classOf x.toNat).isSome = true) := by
  refine ⟨by decide +kernel, ?_, ?_⟩
  · intro a b w h e; cases e; rfl
  · intro x code tag args e; cases e; rfl

theorem witness_SampleBytesRoundTrip :
    (List.replicate 8 (5 : Sample)).length % 4 = 0 ∧ (List.replicate 10 (5 : Byte)).length % 5 = 0 ∧
    (List.replicate 1280 (5 : Byte)).length = 1280 := by decide +kernel

theorem witness_LinkFailuresAndDiscardsOnlyCount :
    State.reset.ti.link = .hunt ∧
    (∃ s : State, s.ti.link = .locked ∧ s.ti.fails = 1 ∧ s.ti.fails < 2) ∧
    (∃ s : State, s.ti.link = .locked ∧ s.ti.fails = 2 ∧ 2 ≤ s.ti.fails) :=
  ⟨rfl, ⟨{ State.reset with ti := { link := .locked, fails := 1 } }, by decide⟩,
    ⟨{ State.reset with ti := { link := .locked, fails := 2 } }, by decide⟩⟩

theorem witness_DirectivePacketIsAppendedOrLost :
    (∃ s : State, classOf (1 : Byte).toNat = some .console ∧ s.du.fifo.length = 7 ∧ s.du.fifo.length < 8) ∧
    classOf (3 : Byte).toNat = none ∧
    (∃ s : State, classOf (2 : Byte).toNat = some .accessory ∧ 8 ≤ s.du.fifo.length) :=
  ⟨⟨{ State.reset with du := { fifo := List.replicate 7 ⟨.console, 0x0C, 0, []⟩ } }, by decide⟩, by decide,
    ⟨{ State.reset with du := { fifo := List.replicate 8 ⟨.console, 0x0C, 0, []⟩ } }, by decide⟩⟩

theorem witness_UnwantedPicturePacketsOnlyCount :
    (List.replicate 1280 (0 : Byte)).length = 1280 ∧
    (opened.ti.status ≠ .idle ∧ (9 : BitVec 16) = opened.ti.linkSeq) ∧
    (opened.ti.status ≠ .idle ∧ (8 : BitVec 16) = opened.ti.linkSeq - 1) ∧
    (State.reset.ti.status = .idle ∧ (10 : BitVec 16) ≠ opened.ti.linkSeq) ∧ (3 : BitVec 16) ≠ 4 := by decide +kernel

/-- No profile, another geometry, a full table, a full FIFO, and a kept picture; and a TILE of a new picture at
position 0, behind a gap, at the last position, above it, and without room. -/
theorem witness_PicturesAreKeptOrDroppedInOrder :
    (State.reset.ti.status ≠ .opened ∧ State.reset.ti.status = .idle ∧ State.reset.prs.f.validAt 0 = none) ∧
    (∃ (s : State) (q : BitVec 16), s.ti.status = .ended ∧ q ≠ s.ti.linkSeq ∧ q ≠ s.ti.linkSeq - 1 ∧
      s.prs.f.validAt s.ti.nextSource = some (small 1)) ∧
    (∃ s : State, s.ti.status = .idle ∧ s.prs.f.validAt s.ti.nextSource = some (small 1) ∧ 8 ≤ s.ti.table.length) ∧
    (∃ s : State, s.ti.status = .idle ∧ s.prs.f.validAt s.ti.nextSource = some (small 1) ∧ s.ti.table.length < 8 ∧
      256 < s.ti.fifo.length + 3) ∧
    ((List.replicate 1280 (0 : Byte)).length = 1280 ∧ opened.ti.status = .opened ∧ (7 : BitVec 16) ≠ opened.ti.linkSeq ∧
      (7 : BitVec 16) ≠ opened.ti.linkSeq - 1 ∧ opened.prs.f.validAt opened.ti.nextSource = some (small 1) ∧
      (0 : BitVec 16).toNat = 0 ∧ (0 : BitVec 16).toNat + 1 ≠ (small 1).tiles ∧ (1 : BitVec 16).toNat ≠ 0 ∧
      (1 : BitVec 16).toNat + 1 = (small 1).tiles ∧ (small 1).tiles ≤ (2 : BitVec 16).toNat) ∧
    (∃ s : State, s.ti.status = .idle ∧ s.prs.f.validAt s.ti.nextSource = some (small 1) ∧ s.ti.table.length < 8 ∧
      s.ti.fifo.length + 3 ≤ 256 ∧ 256 < s.ti.fifo.length + 4) :=
  ⟨by decide, ⟨{ opened with ti := { opened.ti with status := .ended } }, 7, by decide⟩,
    ⟨{ opened with ti := { status := .idle, table := List.replicate 8 { source := 0, frStamp := {} } } }, by decide⟩,
    ⟨{ opened with ti := { status := .idle, fifo := List.replicate 254 (.runE 0 1) } }, by decide +kernel⟩,
    by decide +kernel, ⟨{ opened with ti := { status := .idle, fifo := List.replicate 253 (.runE 0 1) } }, by decide +kernel⟩⟩

/-- An OPEN and a TILE, with no picture before them and truncating one; REF at its seventh and eighth open; a lane that
does not wait, one that waits, and one at its thirty-second open. -/
theorem witness_OpenEventReachesItsReceivers :
    State.reset.ti.status = .idle ∧
    (opened.ti.status = .opened ∧ (10 : BitVec 16) ≠ opened.ti.linkSeq ∧ (10 : BitVec 16) ≠ opened.ti.linkSeq - 1) ∧
    ((∃ w h, Instr.openPacket 10 10 64 16 = .openPacket 10 10 w h) ∧
      ∃ position bytes, Instr.tilePacket 10 0 (List.replicate 1280 0) = .tilePacket 10 position bytes ∧
        bytes.length = 1280) ∧
    ((State.reset.lane .b).waiting = false ∧ (State.reset.lane .b).stall < 32) ∧
    ((onLane.lane .a).waiting = true ∧ (onLane.lane .a).stall + 1 < 32) ∧
    (∃ s : State, (s.lane .a).waiting = true ∧ (s.lane .a).stallLatch = false ∧ (s.lane .a).stall = 31 ∧
      (s.lane .a).items = .unit .p 3 :: []) :=
  ⟨by decide, by decide, ⟨⟨64, 16, rfl⟩, ⟨0, List.replicate 1280 0, rfl, List.length_replicate⟩⟩, by decide, by decide,
    ⟨{ onLane with lsA := { onLane.lsA with stall := 31 } }, by decide⟩⟩

theorem witness_OpenTruncatesTheOpenPicture :
    opened.ti.status = .opened ∧ (10 : BitVec 16) ≠ opened.ti.linkSeq ∧ (10 : BitVec 16) ≠ opened.ti.linkSeq - 1 ∧
    opened.record opened.ti.source = some { source := 4, frStamp := {} } ∧ StreamState.waiting.finished = false := by
  decide

/-- The last position in order, a gap before the last position, a duplicate, and a FIFO without room. -/
theorem witness_TileInOrderIsAppendedOrLost :
    ((List.replicate 1280 (0 : Byte)).length = 1280 ∧ opened.ti.status = .opened ∧
      (9 : BitVec 16) = opened.ti.linkSeq ∧ (1 : BitVec 16).toNat < opened.ti.tiles ∧
      opened.record opened.ti.source = some { source := 4, frStamp := {} } ∧
      StreamState.waiting.finished = false ∧ (1 : BitVec 16).toNat = opened.ti.expected ∧
      opened.ti.fifo.length + 3 ≤ 256) ∧
    (∃ s : State, s.ti.status = .opened ∧ s.ti.linkSeq = 9 ∧ (1 : BitVec 16).toNat < s.ti.tiles ∧
      (s.record s.ti.source).isSome = true ∧ s.ti.expected < (1 : BitVec 16).toNat ∧ s.ti.fifo.length + 4 ≤ 256) ∧
    (0 : BitVec 16).toNat < opened.ti.expected ∧
    (∃ s : State, s.ti.status = .opened ∧ s.ti.linkSeq = 9 ∧ (1 : BitVec 16).toNat < s.ti.tiles ∧
      s.ti.expected ≤ (1 : BitVec 16).toNat ∧
      256 < s.ti.fifo.length + (if (1 : BitVec 16).toNat = s.ti.expected then 3 else 4)) :=
  ⟨by decide +kernel, ⟨{ opened with ti := { opened.ti with expected := 0, fifo := [] } }, by decide⟩, by decide,
    ⟨{ opened with ti := { opened.ti with fifo := List.replicate 254 (.runE 0 1) } }, by decide +kernel⟩⟩

theorem witness_LateAndDroppedTilesOnlyCount :
    (List.replicate 1280 (0 : Byte)).length = 1280 ∧
    (∃ s : State, (9 : BitVec 16) = s.ti.linkSeq ∧ s.ti.status = .ended ∧ (1 : BitVec 16).toNat < s.ti.tiles ∧
      s.ti.tiles ≤ (2 : BitVec 16).toNat) ∧
    (∃ s : State, (9 : BitVec 16) = s.ti.linkSeq ∧ s.ti.status = .dropping) :=
  ⟨by decide +kernel, ⟨{ opened with ti := { opened.ti with status := .ended } }, by decide⟩,
    ⟨{ opened with ti := { opened.ti with status := .dropping } }, by decide⟩⟩

theorem witness_CloseComparesTheTileCount :
    (9 : BitVec 16) = opened.ti.linkSeq ∧ opened.ti.status = .opened ∧ (1 : BitVec 16).toNat = opened.ti.received ∧
    (2 : BitVec 16).toNat ≠ opened.ti.received ∧
    (∃ s : State, (9 : BitVec 16) = s.ti.linkSeq ∧ s.ti.status = .dropping) :=
  ⟨by decide, by decide, by decide, by decide, ⟨{ opened with ti := { opened.ti with status := .dropping } }, by decide⟩⟩

/-- No adopted record; phase 0 and another phase under a record with d = 1. -/
theorem witness_SelectionTestFollowsThePhase :
    (((State.reset.ps.adopt (State.reset.prs.p.profileAt 0)).align false).validAdopted = none) ∧
    (∃ s : State, ((s.ps.adopt (s.prs.p.profileAt 0)).align true).validAdopted = some (small 1) ∧
      ((s.ps.adopt (s.prs.p.profileAt 0)).align true).phase = 0 ∧
      ((s.ps.adopt (s.prs.p.profileAt 0)).align false).phase ≠ 0) :=
  ⟨by decide, ⟨{ State.reset with
    prs := { p := { profile := some (small 1) } }, ps := { adopted := some (small 1), phase := 2 } }, by decide⟩⟩

/-- A proxy row of picture 2. -/
def proxyRow (row : Nat) : ProxyRow := ⟨2, row, false, []⟩

theorem witness_CompletedRowTakesAFreeSlot :
    (State.reset.ps.slot1 = none ∧ State.reset.ps.slot2 = none) ∧
    (∃ p : Ps, p.slot1 = none ∧ p.slot2 = some (proxyRow 0)) ∧ (∃ p : Ps, p.slot1 = some (proxyRow 0) ∧ p.slot2 = none) ∧
    (∃ s : State, s.ps.slot1.isSome = true ∧ s.ps.slot2.isSome = true) :=
  ⟨by decide, ⟨{ slot2 := some (proxyRow 0) }, by decide⟩, ⟨{ slot1 := some (proxyRow 0) }, by decide⟩,
    ⟨{ State.reset with ps := { slot1 := some (proxyRow 0), slot2 := some (proxyRow 1) } }, by decide⟩⟩

theorem witness_BoxValueIsTheRoundedMean : 1 ≤ 4 ∧ 16368 ≤ 1023 * (4 * 4) := by decide

/-- Both streams ready, with both slots occupied. -/
def bothReady : State :=
  { readyForF with
    prs := { readyForF.prs with p := { profile := some (small 1) } }
    scP := { ws := { state := .ready } }
    ps := { slot1 := some (proxyRow 0), slot2 := some (proxyRow 1) } }

theorem witness_ArbiterChoosesByTheTable :
    (State.reset.readyF = false ∧ State.reset.readyP = false) ∧
    (readyForF.tc.turn = none ∧ readyForF.readyF = true ∧ readyForF.readyP = false ∧ readyForF.tc.loaded ≠ some .f) ∧
    (bothReady.tc.turn = none ∧ bothReady.readyP = true ∧ bothReady.ti.fifo.length < 192 ∧
      bothReady.ps.slot1.isSome = true ∧ bothReady.ps.slot2.isSome = true ∧ bothReady.tc.loaded ≠ some .p) ∧
    (∃ s : State, s.tc.turn = none ∧ s.readyF = true ∧ s.readyP = true ∧ s.ps.slot2 = none ∧ s.shareLimit = some 2 ∧
      s.tc.share = 1 ∧ ∀ n, s.shareLimit = some n → s.tc.share < n) ∧
    (∃ s : State, s.tc.turn = none ∧ s.readyF = true ∧ s.readyP = false ∧ s.tc.loaded = some .f ∧
      s.tc.ws.state = .coding ∧ s.scF.restart = false ∧ s.scF.abandon = none) := by
  refine ⟨by decide, by decide, by decide,
    ⟨{ bothReady with ps := { slot1 := some (proxyRow 0) }, tc := { share := 1 } }, by decide, by decide, by decide,
      by decide, by decide, by decide, ?_⟩,
    ⟨{ readyForF with tc := { loaded := some .f, ws := { state := .coding, picture := some 5 } },
                      ti := { fifo := [.runE 0 2] } }, by decide⟩⟩
  intro n h
  have e : (some 2 : Option Nat) = some n := h
  cases e
  decide

theorem witness_HandOverSwapsTheWorkingSets :
    ∃ (s1 s2 s3 : State) (f p : Turn), f.handingOver = true ∧ p.handingOver = true ∧ f.stream = .f ∧ p.stream = .p ∧
      s1.tc.turn = some f ∧ s1.tc.loaded = none ∧ s2.tc.turn = some p ∧ s2.tc.loaded = some .f ∧
      s3.tc.turn = some f ∧ s3.tc.loaded = some .p :=
  ⟨{ State.reset with tc := { turn := some ⟨.f, true, false, none, false, none, []⟩ } },
    { State.reset with tc := { turn := some ⟨.p, true, false, none, false, none, []⟩, loaded := some .f } },
    { State.reset with tc := { turn := some ⟨.f, true, false, none, false, none, []⟩, loaded := some .p } },
    ⟨.f, true, false, none, false, none, []⟩, ⟨.p, true, false, none, false, none, []⟩, by decide⟩

/-- A state in a turn of its loaded stream, over a profile of two tiles across. -/
def codingAt (st : Stream) (slot : Option SlotId) (ws : WorkingSet) (fifo : List FifoEntry) : State :=
  { State.reset with
      prs := { f := { profile := some (small 2) }, p := { profile := some (small 2) } }
      ps := { slot1 := some ⟨2, 0, false, [⟨List.replicate 1024 1, false⟩, ⟨List.replicate 1024 512, true⟩]⟩ }
      tc := { turn := some ⟨st, false, false, none, false, slot, []⟩, loaded := some st
              ws := { ws with state := .coding } }
      ti := { fifo := fifo } }

/-- A head TILE, a head RUN of one position and of two, and both tiles of a P row; a position within a row, the last
of a row and the last of a picture; a moved rung below, above and inside the window, at its ends, and in the dead band;
a debt at and beyond each bound. -/
theorem witness_PositionIsCodedAndRowEndMovesTheRung :
    (∃ s : State, s = codingAt .f none {} [.tileE 0 (List.replicate 1024 0)] ∧ s.tc.loaded = some .f ∧
      (s.tables .f).profile = some (small 2) ∧ s.tc.ws.column + 1 ≠ (small 2).tilesAcross ∧
      (List.replicate 1024 (0 : Sample)).length = 1024) ∧
    ((codingAt .f none { column := 1 } [.runE 1 1]).tc.ws.column + 1 = (small 2).tilesAcross ∧
      (codingAt .f none { column := 1 } [.runE 1 1]).tc.ws.row + 1 ≠ (small 2).rows) ∧
    ((codingAt .f none { column := 1, row := 1, picture := some 2 } [.runE 3 2]).tc.ws.row + 1 = (small 2).rows ∧
      (codingAt .f none { column := 1, row := 1, picture := some 2 } [.runE 3 2]).tc.ws.picture = some 2) ∧
    (∃ (s : State) (row : ProxyRow) (t0 t1 : ProxyTile), s = codingAt .p (some .one) {} [] ∧
      s.ps.slot .one = some row ∧ row.tiles = [t0, t1] ∧ t0.concealed = false ∧ t0.samples.length = 1024 ∧
      t1.concealed = true) ∧
    (∃ (coded q : Nat), q = 0 ∧ 2 * ((small 1).deviation 0 coded 0).natAbs < (small 1).rowTarget) ∧
    (∃ (coded q : Nat) (m : Int), q = 1 ∧ (small 1).rowTarget ≤ 2 * ((small 1).deviation 0 coded 0).natAbs ∧
      m = movedRung q ((small 1).strideFor ((small 1).deviation 0 coded 0).natAbs)
        (decide (0 < (small 1).deviation 0 coded 0)) ∧ m = (small 1).qlo) ∧
    (∃ (coded q : Nat) (m : Int), q = 0 ∧ (small 1).rowTarget ≤ 2 * ((small 1).deviation 0 coded 0).natAbs ∧
      m = movedRung q ((small 1).strideFor ((small 1).deviation 0 coded 0).natAbs)
        (decide (0 < (small 1).deviation 0 coded 0)) ∧ m < (small 1).qlo) ∧
    (∃ (coded q : Nat) (m : Int), q = 3 ∧ (small 1).rowTarget ≤ 2 * ((small 1).deviation 0 coded 0).natAbs ∧
      m = movedRung q ((small 1).strideFor ((small 1).deviation 0 coded 0).natAbs)
        (decide (0 < (small 1).deviation 0 coded 0)) ∧ ((small 1).qhi : Int) < m) ∧
    ((small 1).qlo ≤ 0 ∧ 0 ≤ (small 1).qhi) ∧ ((small 1).qlo ≤ 3 ∧ 3 ≤ (small 1).qhi) ∧
    (∃ w : WorkingSet, w.debt + w.coded - (small 1).target = (small 1).target) ∧
    (∃ w : WorkingSet, w.debt + w.coded - (small 1).target = -((small 1).target : Int)) ∧
    (∃ w : WorkingSet, ((small 1).target : Int) < w.debt + w.coded - (small 1).target) ∧
    (∃ w : WorkingSet, w.debt + w.coded - (small 1).target < -((small 1).target : Int)) :=
  ⟨⟨_, rfl, rfl, rfl, by decide, List.length_replicate⟩, by decide, by decide,
    ⟨_, ⟨2, 0, false, [⟨List.replicate 1024 1, false⟩, ⟨List.replicate 1024 512, true⟩]⟩,
      ⟨List.replicate 1024 1, false⟩, ⟨List.replicate 1024 512, true⟩, rfl, rfl, rfl, rfl, List.length_replicate, rfl⟩,
    ⟨2000, 0, by decide⟩, ⟨1000, 1, 0, by decide⟩, ⟨0, 0, -1, by decide⟩, ⟨6000, 3, 5, by decide⟩, by decide, by decide,
    ⟨{ debt := 4000, coded := 4000 }, by decide⟩, ⟨{}, by decide⟩, ⟨{ debt := 4000, coded := 4001 }, by decide⟩,
    ⟨{ debt := -1 }, by decide⟩⟩

/-- The ceiling just reached: A + 16 n_rem = C. -/
theorem witness_TileSizesAndGuardKeepToTheCeiling :
    (1 : Nat) ≤ 4095 ∧ ∃ w : WorkingSet, w.position (small 2) = 3 ∧ w.position (small 2) < (small 2).tiles ∧
      w.coded + 16 * ((small 2).tiles - w.position (small 2)) = (small 2).ceiling :=
  ⟨by decide, { row := 1, column := 1, coded := 5984 }, by decide⟩

/-- A deviation of exactly half of t, and one inside the dead band. -/
theorem witness_StrideIsTheRoundedQuotient :
    (1 ≤ (small 1).rowTarget ∧ (small 1).rowTarget ≤ 2 * 1000) ∧
    (1 ≤ (small 1).rowTarget ∧ (small 1).rowTarget ≤ 2 * ((small 1).deviation 0 3000 0).natAbs) ∧
    ({ small 1 with rowTarget := 7723 }.rowTarget = 7723 ∧ { small 1 with rowTarget := 7723 }.stride = 2) := by decide

/-- A P ring of one page, empty, with a context ready to begin the picture of its slot. -/
def emptyRing : State :=
  { State.reset with
    prs := { p := { profile := some (small 2), ring := some ⟨0, 1⟩ } }
    tc := { loaded := some .p, ws := { state := .ready } }
    scP := { ws := { state := .ready } } }

/-- The same ring filled by one unit, which Lane A needs or does not. -/
def fullRing (needA : Bool) : State :=
  { emptyRing with fsc := { p := { allocated := 1024, dir := [{ unitEntry with length := 65536, needA := needA }] } } }

/-- A request of the whole ring; one too large; a walk that makes room and one that stops at once; a full directory. -/
theorem witness_ReservationMakesRoomOrSpills :
    (emptyRing.fits .p 1024 = true ∧ emptyRing.fits .p 1025 = false) ∧
    ((fullRing false).walk .p 95 1).fits .p ((small 2).reservation / 64) = true ∧
    ((fullRing true).walk .p 95 1).fits .p ((small 2).reservation / 64) = false ∧
    (((fullRing true).walk .p 95 1).ws .p).row + 1 ≠ (small 2).rows ∧
    (∃ s : State, 1 ≤ s.freeGranules .f ∧ (s.ringState .f).dir.length = 2048) ∧
    ¬ 1 ≤ (fullRing true).freeGranules .p :=
  ⟨by decide, by decide, by decide, by decide,
    ⟨{ State.reset with prs := { f := { ring := some ⟨0, 1⟩ } }, fsc := { f := { dir := List.replicate 2048 unitEntry } } },
      by decide, List.length_replicate⟩, by decide⟩

theorem witness_PassedByEntriesAndRowsLeave :
    (∃ s : State, s.ti.fifo = .endE 5 false false true :: [] ∧ (s.ws .f).state = .ready) ∧
    (∃ s : State, s.ti.fifo = .openE 5 :: [] ∧ (s.ws .f).state = .inactive ∧ s.scF.activate = false) ∧
    (∃ s : State, s.ps.older = some (.one, proxyRow 1) ∧ s.tc.turn = none ∧ (s.ws .p).state = .ready ∧
      (proxyRow 1).row ≠ 0 ∧ (proxyRow 1).last = false) ∧
    (∃ (s : State) (r : ProxyRow), s.ps.older = some (.two, r) ∧ s.tc.turn = none ∧ (s.ws .p).state = .inactive ∧
      s.scP.activate = false ∧ r.last = true) :=
  ⟨⟨{ readyForF with ti := { fifo := [.endE 5 false false true] } }, by decide⟩,
    ⟨{ State.reset with ti := { fifo := [.openE 5] } }, by decide⟩,
    ⟨{ State.reset with ps := { slot1 := some (proxyRow 1) }, scP := { ws := { state := .ready } } }, by decide⟩,
    ⟨{ State.reset with ps := { slot2 := some ⟨2, 1, true, []⟩ } }, ⟨2, 1, true, []⟩, by decide⟩⟩

/-- A row that wraps the end of a ring of one page. -/
theorem witness_RowIsStoredInItsReservation :
    ∃ (s : State) (v : Reservation) (g : Ring) (bytes : List Byte), Mem.wf s.dram = true ∧
      (s.ringState .p).reservation = some v ∧ (s.tables .p).ring = some g ∧ g.inStore ∧ bytes.length ≤ g.bytes ∧
      v.start = 1023 :=
  ⟨{ State.reset with prs := { p := { ring := some ⟨65535, 1⟩ } }, fsc := { p := { reservation := some ⟨1023, 4⟩ } } },
    ⟨1023, 4⟩, ⟨65535, 1⟩, [1, 2, 3], by decide, rfl, rfl, ⟨by decide, by decide⟩, by decide, rfl⟩

/-- A completion with every header field at the largest value its bytes hold. -/
theorem witness_CompletedUnitHasItsFrontAndEntry :
    (∃ (s : State) (g : Ring), Mem.wf s.dram = true ∧ g.inStore ∧
      64 + 4 * (s.ringState .f).rowOffsets.length ≤ g.bytes) ∧
    (∃ c : Completion, c.source = 281474976710655 ∧ c.source < 281474976710656 ∧ c.profile.width < 65536 ∧
      c.profile.height < 65536 ∧ c.profile.rows < 65536 ∧ c.startRung < 256 ∧ c.endRung < 256 ∧
      c.coded = 4294967295 ∧ c.coded < 4294967296 ∧ c.gap = 65535 ∧ c.gap < 65536 ∧ c.profile.tilesAcross < 256 ∧
      c.profile.padLines < 256 ∧ c.flats = 65535 ∧ c.flats < 65536 ∧ c.raws < 65536 ∧ c.conceals < 65536) ∧
    (∃ (s : State) (v : Reservation) (g : Ring), (s.ringState .p).reservation = some v ∧ (s.tables .p).ring = some g ∧
      (s.needs .p (some 1)).1 = true) ∧
    (∃ (s : State) (e : DirEntry), e.take = some 1 ∧ s.tkc.live 1 = some openTake ∧ s.record e.source = none) ∧
    (∃ (s : State) (e : DirEntry) (r : PicRecord), e.take = some 1 ∧ s.tkc.live 1 = some openTake ∧
      s.record e.source = some r ∧ r.fState ≠ .stored) ∧
    unitEntry.take = none ∧ (∀ w ∈ State.reset.tkc.waiting, w.source ≠ 3) ∧
    (∃ s : State, (s.tkc.waiting.find? fun w => decide (w.source = 3)) = some ⟨3, 1, true, false⟩) :=
  ⟨⟨{ State.reset with fsc := { f := { rowOffsets := [72, 88] } } }, ⟨0, 1⟩, by decide, ⟨by decide, by decide⟩, by decide⟩,
    ⟨⟨281474976710655, small 1, 4294967295, 255, 255, 65535, 0, 0, 0, 65535, { source := 0, frStamp := {} }⟩, by decide⟩,
    ⟨{ recording with prs := { p := { ring := some ⟨0, 1⟩ } }, fsc := { p := { reservation := some ⟨0, 95⟩ } } },
      ⟨0, 95⟩, ⟨0, 1⟩, by decide⟩,
    ⟨recording, { unitEntry with take := some 1 }, by decide⟩,
    ⟨{ recording with ti := { table := [{ source := 3, frStamp := {} }] } }, { unitEntry with take := some 1 },
      { source := 3, frStamp := {} }, by decide⟩, rfl, by decide,
    ⟨{ recording with tkc := { recording.tkc with waiting := [⟨3, 1, true, false⟩] } }, by decide⟩⟩

theorem wordBytes_length (s : State) (a : Nat) : (s.wordBytes a).length = 8 := by
  have hb : ∀ n v, (be n v).length = n := by intro n v; induction n <;> simp_all [be]
  unfold State.wordBytes
  split <;> simp [hb]

theorem flatMap_length {α : Type} (f : α → List Byte) (h : ∀ a, (f a).length = 8) (l : List α) :
    (l.flatMap f).length = 8 * l.length := by
  induction l with
  | nil => rfl
  | cons a l ih => simp [h, ih]; omega

/-- The header of a unit of 100 bytes: segment 0 holds 100 bytes whatever the words hold. -/
theorem witness_SegmentZeroCarriesTheSendFields : 64 ≤ (onLane.segmentData ⟨0, 1⟩ unitEntry 0).length := by
  unfold State.segmentData
  rw [List.length_take, flatMap_length _ (fun u => wordBytes_length onLane _)]
  decide

theorem witness_RefPulseAdvancesFreeRun :
    (∃ s : State, s.tcu.refPresent = true ∧ s.tcu.opensSincePulse = 7 ∧ s.tcu.opensSincePulse < 8 ∧ s.tcu.jam = none) ∧
    (∃ s : State, s.tcu.refPresent = false ∧ s.tcu.jam = some ⟨⟨1, 2, 3, 4⟩, true⟩) :=
  ⟨⟨{ State.reset with tcu := { opensSincePulse := 7 } }, by decide⟩,
    ⟨{ State.reset with tcu := { refPresent := false, jam := some ⟨⟨1, 2, 3, 4⟩, true⟩ } }, by decide⟩⟩

theorem witness_RefLostAfterEightOpens :
    (∃ s : State, s.tcu.refPresent = true ∧ 8 ≤ s.tcu.opensSincePulse) ∧
    (∃ s : State, s.tcu.refPresent = false) ∧ State.reset.tcu.opensSincePulse < 8 ∧
    exec .refLost State.reset = .next State.reset :=
  ⟨⟨{ State.reset with tcu := { opensSincePulse := 8 } }, by decide⟩,
    ⟨{ State.reset with tcu := { refPresent := false } }, by decide⟩, by decide, rfl⟩

theorem witness_TrigEdgesAreTestedAndTaken :
    (State.reset.tcu.trigHigh ≠ true ∧ State.reset.prs.trigger = .off) ∧
    (∃ s : State, s.tcu.trigHigh ≠ true ∧ s.prs.trigger = .both) ∧
    (∃ s : State, s.tcu.trigHigh ≠ false ∧ s.prs.trigger = .falling) ∧
    (State.reset.tkc.ctl ≠ .recording ∧ TrigKind.toggle ≠ .stop) ∧
    (recording.tkc.ctl = .recording ∧ recording.tkc.inState .opened = some openTake ∧ openTake.stopPending = none ∧
      TrigKind.stop ≠ .start) :=
  ⟨by decide, ⟨{ State.reset with prs := { trigger := .both } }, by decide⟩,
    ⟨{ State.reset with prs := { trigger := .falling }, tcu := { trigHigh := true } }, by decide⟩, by decide, by decide⟩

theorem witness_SetTimecodeChecksAndRebases :
    (∃ s d, State.accepts s .setTimecode d [] ∧ s.tkc.busy = true) ∧
    (∃ s d, State.accepts s .setTimecode d [] ∧ s.tkc.busy = false ∧ fieldAt d.args 0 1 ∉ [24, 25, 30, 48, 50, 60]) ∧
    (∃ s d, State.accepts s .setTimecode d [] ∧ s.tkc.busy = false ∧ flagAt d.args 1 = true ∧ fieldAt d.args 0 1 = 50 ∧
      tcModeOf (fieldAt d.args 2 1) = none) ∧
    (∃ s d, State.accepts s .setTimecode d [] ∧ s.tkc.busy = false ∧ fieldAt d.args 0 1 = s.tcu.base ∧
      flagAt d.args 1 = s.tcu.drop ∧ tcModeOf (fieldAt d.args 2 1) = some .recordRun) ∧
    (∃ s d, State.accepts s .setTimecode d [] ∧ s.tkc.busy = false ∧ fieldAt d.args 0 1 ≠ s.tcu.base ∧
      s.ti.table ≠ [] ∧ tcModeOf (fieldAt d.args 2 1) = some .freeRun) ∧
    (∃ s d, State.accepts s .setTimecode d [] ∧ s.tkc.busy = false ∧ fieldAt d.args 0 1 = 60 ∧
      fieldAt d.args 0 1 ≠ s.tcu.base ∧ flagAt d.args 1 = true ∧ s.ti.table = [] ∧ s.fsc.f.dir = [] ∧
      s.fsc.p.dir = [] ∧ s.tkc.takes = [] ∧ s.tcu.opensSincePulse < 8) :=
  ⟨⟨withHead .setTimecode .console [25, 0, 0] recording, _, head_accepts _ _ _ _ (by decide), by decide⟩,
    ⟨withHead .setTimecode .console [26, 0, 0] State.reset, _, head_accepts _ _ _ _ (by decide), by decide⟩,
    ⟨withHead .setTimecode .console [50, 1, 2] State.reset, _, head_accepts _ _ _ _ (by decide), by decide⟩,
    ⟨withHead .setTimecode .console [25, 0, 1] State.reset, _, head_accepts _ _ _ _ (by decide), by decide⟩,
    ⟨withHead .setTimecode .console [30, 1, 0] readyForF, _, head_accepts _ _ _ _ (by decide), by decide⟩,
    ⟨withHead .setTimecode .console [60, 1, 0] State.reset, _, head_accepts _ _ _ _ (by decide), by decide⟩⟩

/-- Base 30 with drop on: a label at the last value of each field, one that is skipped, one out of range. -/
theorem witness_JamChecksAndLoads :
    (∃ s d, State.accepts s .jam d [] ∧ s.tcu.mode = .recordRun ∧ s.tkc.busy = true) ∧
    (∃ s d, State.accepts s .jam d [] ∧ s.tkc.busy = false ∧ s.tcu.base ≤ (labelAt d.args 0).frames) ∧
    (∃ s d, State.accepts s .jam d [] ∧ s.tcu.mode = .freeRun ∧ labelAt d.args 0 = ⟨23, 59, 59, 29⟩ ∧
      (labelAt d.args 0).frames < s.tcu.base) ∧
    (∃ s d, State.accepts s .jam d [] ∧ s.tcu.mode = .recordRun ∧ s.tkc.busy = false ∧ s.tcu.drop = true ∧
      labelAt d.args 0 = ⟨0, 1, 0, 1⟩ ∧ (labelAt d.args 0).frames < s.tcu.base) :=
  ⟨⟨withHead .jam .console [0, 0, 0, 0, 0] { recording with tcu := { mode := .recordRun } }, _,
      head_accepts _ _ _ _ (by decide), by decide⟩,
    ⟨withHead .jam .console [0, 0, 0, 25, 0] State.reset, _, head_accepts _ _ _ _ (by decide), by decide⟩,
    ⟨withHead .jam .console [23, 59, 59, 29, 1] { State.reset with tcu := { base := 30, drop := true } }, _,
      head_accepts _ _ _ _ (by decide), by decide⟩,
    ⟨withHead .jam .console [0, 1, 0, 1, 0] { State.reset with tcu := { base := 30, drop := true, mode := .recordRun } },
      _, head_accepts _ _ _ _ (by decide), by decide⟩⟩

theorem witness_ArmAndDisarmSetTheRetention :
    (∃ s d, State.accepts s .arm d [] ∧ fieldAt d.args 0 2 = 1025 ∧ s.fsc.newest = some 1049) ∧
    (∃ s d, State.accepts s .disarm d [] ∧ s.tkc.ctl = .recording) ∧
    (∃ s d, State.accepts s .disarm d [] ∧ s.tkc.ctl ≠ .recording) :=
  ⟨⟨withHead .arm .accessory [4, 1] { State.reset with fsc := { newest := some 1049 } }, _,
      head_accepts _ _ _ _ (by decide), by decide⟩,
    ⟨withHead .disarm .console [] recording, _, head_accepts _ _ _ _ (by decide), by decide⟩,
    ⟨withHead .disarm .console [] State.reset, _, head_accepts _ _ _ _ (by decide), by decide⟩⟩

/-- Picture 5 in flight, its F unit in the ring without needs, under a part that is CACHING. -/
def caching : State :=
  { readyForF with
    fsc := { f := { dir := [{ unitEntry with source := 5, needA := false }], allocated := 2, head := 2 } }
    tkc := { ctl := .caching, armed := true, pmax := 4, lastOpen := some 5 } }

/-- A walk that stops at its limit, and one that stops at a picture that cannot join; a start with a pre-roll, and one
while a take is CLOSING; a lane within a take's markers and one outside them. -/
theorem witness_StartJoinsTheLongestPreRoll :
    (∃ s d, State.accepts s .start d [] ∧ s.tkc.ctl = .recording) ∧
    (∃ s d, State.accepts s .start d [] ∧ s.tkc.ctl ≠ .recording ∧ s.oneOpenTake ∧ s.tkc.inState .closing = none ∧
      markerCount (s.lane .a).items ≤ 126 ∧ s.prs.lanes.aF = true ∧ s.preRoll (min (fieldAt d.args 0 2) s.tkc.pmax) 6 = 1 ∧
      s.fsc.f.entry 5 = some { unitEntry with source := 5, needA := false }) ∧
    (∃ s d, State.accepts s .start d [] ∧ s.tkc.ctl ≠ .recording ∧ s.oneOpenTake ∧
      s.tkc.inState .closing = some closingTake) ∧
    (∃ s d, State.accepts s .start d [] ∧ s.tkc.ctl ≠ .recording ∧ s.oneOpenTake ∧ s.tkc.inState .closing = none ∧
      markerCount (s.lane .b).items ≤ 126 ∧ s.prs.lanes.feed = .takes) ∧
    (readyForF.preRoll 1 6 = 1 ∧ readyForF.joinable 5 = true) ∧
    (readyForF.preRoll 3 6 < 3 ∧ readyForF.preRoll 3 6 < 6 ∧ readyForF.joinable 4 = false) ∧
    (closing.tkc.inState .closing = some closingTake ∧ closingTake.onLane .a = true) ∧
    (stopPending.tkc.inState .closing = some { closingTake with number := 65535 } ∧
      TakeRec.onLane { closingTake with number := 65535 } .b = false ∧ (stopPending.tkc.inState .opened).isSome = true) ∧
    (recording.tkc.inState .opened = some openTake ∧ recording.tkc.inState .closing = none ∧
      recording.bracket .a = some 1 ∧ recording.bracket .b = none) :=
  ⟨⟨withHead .start .console [0, 5] recording, _, head_accepts _ _ _ _ (by decide), by decide⟩,
    ⟨withHead .start .console [0, 5] caching, _, head_accepts _ _ _ _ (by decide), by decide,
      by unfold State.oneOpenTake; decide, by decide⟩,
    ⟨withHead .start .accessory [0, 5] closing, _, head_accepts _ _ _ _ (by decide), by decide,
      by unfold State.oneOpenTake; decide, by decide⟩,
    ⟨withHead .start .console [0, 0] (run .setLaneBFeed [1, 4] State.reset), _, head_accepts _ _ _ _ (by decide),
      by decide, by unfold State.oneOpenTake; decide, by decide⟩,
    by decide, by decide, by decide, by decide, by decide⟩

/-- A part that is RECORDING with a picture of the take still unfinished. -/
def unfinishedTake : State :=
  { recording with ti := { table := [{ source := 4, frStamp := {}, take := some 1 }] } }

/-- Lane B behind the TAKE OPEN of take 2, with the units up to number 3 behind it: a unit of the take, one of none. -/
def behindOpen : State :=
  { closing with
    fsc := { p := { dir := [{ unitEntry with source := 4, take := some 2, needB := true },
                            { unitEntry with source := 5, needB := true }] } }
    lsB := { openTake := some 2, lastUnit := some 3 } }

/-- R161: the unit of the take goes in; one of no take, and one not above the last, are dropped with their need. -/
theorem test_lane_b_keeps_its_law :
    (behindOpen.pushUnit .b .p 4).lsB.items = [.unit .p 4] ∧ (behindOpen.pushUnit .b .p 5).lsB.items = [] ∧
    ((behindOpen.pushUnit .b .p 5).fsc.p.dir.map DirEntry.needB) = [true, false] ∧
    (behindOpen.pushUnit .b .p 3).lsB.items = [] := by decide

/-- STOP in each of its cases; a CLOSING take kept open and one that ends, alone and with the next take waiting; a
unit that Lane B takes in and units it drops; a cut that concerns no take, one of the OPEN take and one of a CLOSING take. -/
theorem witness_StopCloseAndCutEndATake :
    (∃ s d, State.accepts s .stop d [] ∧ s.tkc.ctl ≠ .recording) ∧
    (∃ s d, State.accepts s .stop d [] ∧ s.tkc.ctl = .recording ∧ s.tkc.inState .opened = some openTake ∧
      openTake.stopPending = none ∧ s.tkc.inState .closing = none ∧ s.oneOpenTake ∧
      s.unfinished openTake.number = false ∧ (s.lane .a).unannounced ≠ some openTake.number) ∧
    (∃ s d, State.accepts s .stop d [] ∧ s.tkc.ctl = .recording ∧ s.tkc.inState .opened = some openTake ∧
      openTake.stopPending = none ∧ s.tkc.inState .closing = none ∧ s.oneOpenTake ∧
      s.unfinished openTake.number = true) ∧
    (∃ s d o, State.accepts s .stop d [] ∧ s.tkc.ctl = .recording ∧ s.tkc.inState .opened = some o ∧
      o.stopPending.isSome = true) ∧
    (∃ s d c, State.accepts s .stop d [] ∧ s.tkc.ctl = .recording ∧ s.tkc.inState .opened = some openTake ∧
      openTake.stopPending = none ∧ s.tkc.inState .closing = some c) ∧
    (closing.oneOpenTake ∧ closing.tkc.inState .closing = some closingTake ∧ closing.unfinished 1 = false ∧
      closingTake.onLane .a = true ∧ (closing.lane .a).unannounced ≠ some 1) ∧
    (∃ s : State, s.oneOpenTake ∧ s.tkc.inState .closing = some closingTake ∧ s.unfinished 1 = true) ∧
    (stopPending.tkc.inState .closing = some { closingTake with number := 65535 } ∧
      stopPending.unfinished 65535 = false ∧
      stopPending.tkc.inState .opened = some { openTake with stopPending := some .trigger, e := some 6 }) ∧
    ((behindOpen.lsB.lastUnit = some 3 ∧ behindOpen.lsB.openTake = some 2 ∧
        behindOpen.fsc.p.entry 4 = some { unitEntry with source := 4, take := some 2, needB := true }) ∧ 3 ≤ 3 ∧
      behindOpen.fsc.p.entry 5 = some { unitEntry with source := 5, needB := true } ∧ unitEntry.take ≠ some 2 ∧
      behindOpen.laneBInOrder) ∧
    (markerCount (closing.lane .b).items ≤ 126 ∧ (closing.lane .b).unannounced ≠ some 1) ∧
    recording.tkc.cutTake 3 = none ∧
    (unfinishedTake.tkc.cutTake 4 = some openTake ∧ unfinishedTake.leaves openTake 3 4 = true) ∧
    (closing.tkc.cutTake 6 = some closingTake ∧ closing.tkc.cutTake 7 = none ∧ closing.leaves closingTake 3 6 = true) := by
  refine ⟨⟨withHead .stop .console [] State.reset, _, head_accepts _ _ _ _ (by decide), by decide⟩,
    ⟨withHead .stop .console [] recording, _, head_accepts _ _ _ _ (by decide), by decide, by decide, by decide,
      by decide, by unfold State.oneOpenTake; decide, by decide⟩,
    ⟨withHead .stop .console [] unfinishedTake, _, head_accepts _ _ _ _ (by decide), by decide, by decide, by decide,
      by decide, by unfold State.oneOpenTake; decide, by decide⟩,
    ⟨withHead .stop .console [] stopPending, _, { openTake with stopPending := some .trigger, e := some 6 },
      head_accepts _ _ _ _ (by decide), by decide⟩,
    ⟨withHead .stop .console [] { recording with tkc := { recording.tkc with
        takes := [{ closingTake with number := 65535 }, openTake] } }, _, { closingTake with number := 65535 },
      head_accepts _ _ _ _ (by decide), by decide⟩,
    ⟨closing_oneOpenTake, by decide⟩,
    ⟨{ closing with ti := unfinishedTake.ti }, by unfold State.oneOpenTake; decide, by decide⟩,
    by decide, ⟨by decide, by decide, by decide, by decide, by unfold State.laneBInOrder; decide⟩, by decide, by decide,
    by decide, by decide⟩

theorem witness_MarkJoinsTheOpenTake :
    (∃ s d, State.accepts s .mark d [] ∧ fieldAt d.args 0 1 = 0) ∧
    (∃ s d, State.accepts s .mark d [] ∧ fieldAt d.args 0 1 ≠ 0 ∧ s.tkc.inState .opened = none) ∧
    (∃ s d, State.accepts s .mark d [] ∧ fieldAt d.args 0 1 = 255 ∧ s.tkc.inState .opened = some openTake ∧
      openTake.marks.length < 16) ∧
    (∃ s d o, State.accepts s .mark d [] ∧ fieldAt d.args 0 1 ≠ 0 ∧ s.tkc.inState .opened = some o ∧
      16 ≤ o.marks.length) :=
  ⟨⟨withHead .mark .console [0] recording, _, head_accepts _ _ _ _ (by decide), by decide⟩,
    ⟨withHead .mark .console [1] State.reset, _, head_accepts _ _ _ _ (by decide), by decide⟩,
    ⟨withHead .mark .accessory [255] recording, _, head_accepts _ _ _ _ (by decide), by decide⟩,
    ⟨withHead .mark .console [1] { recording with tkc := { recording.tkc with
        takes := [{ openTake with marks := List.replicate 16 ⟨1, .console, none, {}⟩ }] } }, _,
      { openTake with marks := List.replicate 16 ⟨1, .console, none, {}⟩ }, head_accepts _ _ _ _ (by decide), by decide⟩⟩

theorem witness_TakeRecordsAreReadAndCleared :
    (∃ s d, State.accepts s .clearTakes d []) ∧
    (∃ s d, State.accepts s .readTake d [] ∧
      (s.tkc.takes.find? fun t => decide (t.number = fieldAt d.args 0 2)) = some openTake) ∧
    (∃ s d, State.accepts s .readTake d [] ∧ ∀ t ∈ s.tkc.takes, t.number ≠ fieldAt d.args 0 2) :=
  ⟨⟨withHead .clearTakes .console [] recording, _, head_accepts _ _ _ _ (by decide)⟩,
    ⟨withHead .readTake .console [0, 1] recording, _, head_accepts _ _ _ _ (by decide), by decide⟩,
    ⟨withHead .readTake .console [0, 2] recording, _, head_accepts _ _ _ _ (by decide), by decide⟩⟩

/-- The load of 1.2.2, which passes, and the same load while a take is held over another geometry. -/
theorem witness_FProfileIsCheckedAndDerived :
    loaded.checkF (fSettings (fArgs 0 3840 2160 400000 3000000 4 10 24 2)) = none ∧
    { recording with prs := { f := { profile := some (small 1) } } }.checkF
      (fSettings (fArgs 0 3840 2160 400000 3000000 4 10 24 2)) = some .refusedBusy := by decide +kernel

theorem witness_LoadProfileBecomesPending :
    (∃ s d, State.accepts s .loadProfile d [] ∧ 2 ≤ fieldAt d.args 0 1) ∧
    (∃ s d, State.accepts s .loadProfile d [] ∧ fieldAt d.args 0 1 = 0 ∧
      s.checkF (fSettings d.args) = some .refusedRange) ∧
    (∃ s d, State.accepts s .loadProfile d [] ∧ fieldAt d.args 0 1 = 0 ∧ s.checkF (fSettings d.args) = none ∧
      s.rederiveP (fSettings d.args) = none) ∧
    (∃ s d, State.accepts s .loadProfile d [] ∧ fieldAt d.args 0 1 = 1 ∧ s.checkP d.args = none) ∧
    (∃ s d, State.accepts s .loadProfile d [] ∧ fieldAt d.args 0 1 = 1 ∧ (s.checkP d.args).isSome = true) :=
  ⟨⟨withHead .loadProfile .console (List.replicate 18 2) State.reset, _, head_accepts _ _ _ _ (by decide), by decide⟩,
    ⟨withHead .loadProfile .console (fArgs 0 3840 2160 400000 3000000 4 10 24 2) State.reset, _,
      head_accepts _ _ _ _ (by decide), by decide +kernel⟩,
    ⟨withHead .loadProfile .console (fArgs 0 3840 2160 400000 3000000 4 10 24 2) loaded, _,
      head_accepts _ _ _ _ (by decide), by decide +kernel⟩,
    ⟨withHead .loadProfile .console (pArgs 0 3 2 4 8000 200000 4 10 24 2) loaded, _,
      head_accepts _ _ _ _ (by decide), by decide +kernel⟩,
    ⟨withHead .loadProfile .console (pArgs 0 3 2 4 8000 200000 4 10 24 2)
        (run .loadProfile (fArgs 0 3840 2160 400000 3000000 4 10 24 2) loaded), _,
      head_accepts _ _ _ _ (by decide), by decide +kernel⟩⟩

/-- Steps at the ends of their range, and a list that is too long for a directive's count to be legal. -/
theorem witness_LoadLadderBecomesPending :
    (∃ s d, State.accepts s .loadLadder d [] ∧ streamOf (fieldAt d.args 0 1) = some .p ∧
      (List.range (fieldAt d.args 1 1)).map (fun i => fieldAt d.args (2 + 2 * i) 2) = [1, 4095] ∧
      [1, 4095].Pairwise (· ≤ ·) ∧ (s.tables .p).validAt s.ti.nextSource = none) ∧
    (∃ s d, State.accepts s .loadLadder d [] ∧ streamOf (fieldAt d.args 0 1) = some .f ∧
      (List.range (fieldAt d.args 1 1)).map (fun i => fieldAt d.args (2 + 2 * i) 2) = [1, 4096] ∧
      ¬ ∀ x ∈ [1, 4096], 1 ≤ x ∧ x ≤ 4095) :=
  ⟨⟨withHead .loadLadder .console (ladderArgs 1 [1, 4095]) State.reset, _, head_accepts _ _ _ _ (by decide), by decide⟩,
    ⟨withHead .loadLadder .console (ladderArgs 0 [1, 4096]) State.reset, _, head_accepts _ _ _ _ (by decide), by decide⟩⟩

theorem witness_SetRingReplacesTheRing :
    (∃ s d, State.accepts s .setRing d [] ∧ streamOf (fieldAt d.args 0 1) = some .f ∧ s.tkc.ctl ≠ .idle) ∧
    (∃ s d, State.accepts s .setRing d [] ∧ streamOf (fieldAt d.args 0 1) = some .f ∧ s.tkc.ctl = .idle ∧
      (s.ringState .f).dir = [] ∧ (s.ringState .f).reservation = none ∧ 1 ≤ fieldAt d.args 3 4 ∧
      fieldAt d.args 1 2 + fieldAt d.args 3 4 = 65536) ∧
    (∃ s d, State.accepts s .setRing d [] ∧ streamOf (fieldAt d.args 0 1) = some .f ∧ s.tkc.ctl = .idle ∧
      (s.ringState .f).dir = [] ∧ (s.ringState .f).reservation = none ∧ ¬ 1 ≤ fieldAt d.args 3 4) :=
  ⟨⟨withHead .setRing .console (ringArgs 0 0 1) recording, _, head_accepts _ _ _ _ (by decide), by decide⟩,
    ⟨withHead .setRing .console (ringArgs 0 65535 1) State.reset, _, head_accepts _ _ _ _ (by decide), by decide⟩,
    ⟨withHead .setRing .console (ringArgs 0 0 0) State.reset, _, head_accepts _ _ _ _ (by decide), by decide⟩⟩

theorem witness_LaneAndTriggerSettingsAreReplaced :
    (∃ s d, State.accepts s .setLanes d [] ∧ fieldAt d.args 4 1 = 17) ∧
    (∃ s d, State.accepts s .setLanes d [] ∧ carriageOf (fieldAt d.args 0 1) = some false ∧
      carriageOf (fieldAt d.args 1 1) = some true ∧ feedOf (fieldAt d.args 2 1) = some .takes ∧
      streamOf (fieldAt d.args 3 1) = some .f ∧ fieldAt d.args 4 1 = 16 ∧ s.tkc.busy = true ∧
      false ≠ s.prs.lanes.aF) ∧
    (∃ s d, State.accepts s .setLanes d [] ∧ carriageOf (fieldAt d.args 0 1) = some true ∧
      carriageOf (fieldAt d.args 1 1) = some true ∧ feedOf (fieldAt d.args 2 1) = some .always ∧
      streamOf (fieldAt d.args 3 1) = some .f ∧ fieldAt d.args 4 1 = 1 ∧ s.tkc.busy = true ∧
      true = s.prs.lanes.aF ∧ true = s.prs.lanes.aP ∧ s.prs.lanes.bStream = .p) ∧
    (∃ s d, State.accepts s .setLaneBFeed d [] ∧ fieldAt d.args 1 1 = 0) ∧
    (∃ s d, State.accepts s .setLaneBFeed d [] ∧ feedOf (fieldAt d.args 0 1) = some .off ∧ fieldAt d.args 1 1 = 16) ∧
    (∃ s d, State.accepts s .setTrigger d [] ∧ 4 ≤ fieldAt d.args 0 1) ∧
    (∃ s d, State.accepts s .setTrigger d [] ∧
      (fieldAt d.args 0 1, TrigMode.both) ∈ [(0, TrigMode.off), (1, .rising), (2, .falling), (3, .both)]) :=
  ⟨⟨withHead .setLanes .console [1, 1, 1, 1, 17] State.reset, _, head_accepts _ _ _ _ (by decide), by decide⟩,
    ⟨withHead .setLanes .console [0, 1, 1, 0, 16] recording, _, head_accepts _ _ _ _ (by decide), by decide⟩,
    ⟨withHead .setLanes .console [1, 1, 2, 0, 1] recording, _, head_accepts _ _ _ _ (by decide), by decide⟩,
    ⟨withHead .setLaneBFeed .accessory [0, 0] State.reset, _, head_accepts _ _ _ _ (by decide), by decide⟩,
    ⟨withHead .setLaneBFeed .accessory [0, 16] recording, _, head_accepts _ _ _ _ (by decide), by decide⟩,
    ⟨withHead .setTrigger .console [4] State.reset, _, head_accepts _ _ _ _ (by decide), by decide⟩,
    ⟨withHead .setTrigger .console [3] State.reset, _, head_accepts _ _ _ _ (by decide), by decide⟩⟩

theorem witness_CreditPulseAddsABlockAndEndsAStall :
    (∃ x : LaneSender, x.tx.isSome = true ∧ x.stallLatch = false ∧ x.stall = 31 ∧ x.stall < 32 ∧ x.credit = 65535) ∧
    (∃ s : State, s.lsB.tx.isSome = true ∧ s.lsB.stallLatch = true ∧ s.lsB.credit < 65535) ∧
    (∃ s : State, (s.lane .a).items = .unit .p 3 :: [] ∧ 32 ≤ (s.lane .a).stall ∧ (s.lane .a).stallLatch = false) ∧
    ((onLane.lane .a).items = .unit .p 3 :: [] ∧ (onLane.lane .a).stall < 32) ∧
    (∀ st source rest, (State.reset.lane .b).items ≠ .unit st source :: rest) :=
  ⟨⟨{ tx := some (.marker (.takeOpen 1 0 0 0 .freeRun)), stall := 31, credit := 65535 }, by decide⟩,
    ⟨{ State.reset with lsB := { tx := some (.marker (.takeOpen 1 0 0 0 .freeRun)), stallLatch := true } }, by decide⟩,
    ⟨{ onLane with lsA := { onLane.lsA with stall := 32 } }, by decide⟩, by decide, fun _ _ _ h => by cases h⟩

theorem witness_CreditLetsTheNextSegmentGo :
    (onLane.lane .a).tx = none ∧ (onLane.lane .a).queue = [] ∧ (onLane.lane .a).items = .unit .p 3 :: [] ∧
    (onLane.lane .a).stallLatch = false ∧ (onLane.lane .a).stall < 32 ∧ (onLane.lane .a).credit < 65535 ∧
    (onLane.ringState .p).entry 3 = some unitEntry ∧ (onLane.tables .p).ring = some ⟨0, 1⟩ ∧
    0 = (onLane.lane .a).nextIndex := by decide

/-- The last segment of the unit on Lane A. -/
def lastSegment : Segment := ⟨.p, 3, 0, true, false, 0, []⟩

theorem witness_SentPacketLeavesItsLane :
    (onLane.lane .a).tx = none ∧
    (∃ s : State, ∃ r q, (s.lane .b).tx = some (.report r) ∧ (s.lane .b).queue = q :: []) ∧
    (∃ s : State, ∃ r, (s.lane .b).tx = some (.report r) ∧ (s.lane .b).queue = [] ∧ (s.lane .b).items = []) ∧
    (∃ s : State, ∃ m, (s.lane .a).tx = some (.marker m) ∧ (s.lane .a).queue = [] ∧ (s.lane .a).items = [.marker m]) ∧
    (∃ s : State, (s.lane .a).tx = some (.segment lastSegment) ∧ lastSegment.last = true ∧
      (s.lane .a).inProgress = some ⟨.p, 3, 1⟩ ∧ (s.lane .a).queue = [] ∧ (s.lane .a).items = [.unit .p 3]) :=
  ⟨rfl, ⟨{ State.reset with lsB := { tx := some (.report ⟨.notice (.overrun 0), 0⟩), queue := [⟨.notice (.overrun 1), 2⟩] } },
      ⟨.notice (.overrun 0), 0⟩, ⟨.notice (.overrun 1), 2⟩, by decide⟩,
    ⟨{ State.reset with lsB := { tx := some (.report ⟨.notice (.overrun 0), 0⟩) } }, ⟨.notice (.overrun 0), 0⟩, by decide⟩,
    ⟨{ State.reset with lsA := { tx := some (.marker (.takeOpen 1 0 0 0 .freeRun))
                                 items := [.marker (.takeOpen 1 0 0 0 .freeRun)] } }, .takeOpen 1 0 0 0 .freeRun, by decide⟩,
    ⟨{ onLane with lsA := { tx := some (.segment lastSegment), inProgress := some ⟨.p, 3, 1⟩, items := [.unit .p 3] } },
      by decide⟩⟩

theorem witness_ReportsAreAdmittedOrLost :
    (∃ x : LaneSender, x.queue.length = 7 ∧ x.queue.length < 8 ∧ x.tx.isSome = true) ∧
    (∃ x : LaneSender, 0 < 8 ∧ x.queue = [] ∧ x.tx = none) ∧ (∃ x : LaneSender, 8 ≤ x.queue.length ∧ x.lost = 65535) ∧
    (∃ (s : State) (d : Directive), s.du.fifo = d :: []) :=
  ⟨⟨{ queue := List.replicate 7 ⟨.notice (.overrun 0), 0⟩, tx := some (.marker (.takeOpen 1 0 0 0 .freeRun)) }, by decide⟩,
    ⟨{}, by decide⟩, ⟨{ queue := List.replicate 8 ⟨.notice (.overrun 0), 0⟩, lost := 65535 }, by decide⟩,
    ⟨withHead .stop .console [] State.reset, _, rfl⟩⟩

theorem witness_DirectiveChecksComeInOrder :
    (∃ (s : State) (d : Directive), s.du.fifo = d :: [] ∧ ∀ k : DirKind, d.code ≠ k.code) ∧
    (DirKind.setRing.privileged = true ∧
      (withHead .setRing .accessory [] State.reset).du.fifo = ⟨.accessory, DirKind.setRing.code, 7, []⟩ :: []) ∧
    (DirKind.stop.privileged = false ∧ [(0 : Byte)].length ≠ DirKind.stop.argLength [0]) :=
  ⟨⟨{ State.reset with du := { fifo := [⟨.console, 0x13, 0, []⟩] } }, ⟨.console, 0x13, 0, []⟩, rfl,
      fun k => by cases k <;> decide⟩, by decide, by decide⟩

theorem witness_QueryGivesTheSnapshotThenClears :
    (∃ s d, State.accepts s .query d [] ∧ groupOf (fieldAt d.args 0 1) = none ∧ fieldAt d.args 0 1 = 10) ∧
    (∃ s d, State.accepts s .query d [] ∧ groupOf (fieldAt d.args 0 1) = some .directives ∧ flagAt d.args 1 = true) ∧
    (∃ s d, State.accepts s .query d [] ∧ groupOf (fieldAt d.args 0 1) = some .intake ∧ flagAt d.args 1 = false) :=
  ⟨⟨withHead .query .console [10, 0] State.reset, _, head_accepts _ _ _ _ (by decide), by decide⟩,
    ⟨withHead .query .accessory [9, 1] State.reset, _, head_accepts _ _ _ _ (by decide), by decide⟩,
    ⟨withHead .query .console [1, 0] State.reset, _, head_accepts _ _ _ _ (by decide), by decide⟩⟩

theorem witness_RestartIsPostedOrAppliedAtOnce :
    (∃ s d, State.accepts s .restart d [] ∧ 2 ≤ fieldAt d.args 0 1) ∧
    (∃ s d, State.accepts s .restart d [] ∧ fieldAt d.args 0 1 = 0 ∧ (s.ws .f).state ≠ .inactive) ∧
    (∃ s d, State.accepts s .restart d [] ∧ fieldAt d.args 0 1 = 0 ∧ (s.ws .f).state = .inactive ∧ s.du.waitF = []) :=
  ⟨⟨withHead .restart .console [2] State.reset, _, head_accepts _ _ _ _ (by decide), by decide⟩,
    ⟨withHead .restart .console [0] readyForF, _, head_accepts _ _ _ _ (by decide), by decide⟩,
    ⟨withHead .restart .console [0] State.reset, _, head_accepts _ _ _ _ (by decide), by decide⟩⟩

theorem witness_RestartOfStreamPClearsTheScaler :
    (∃ s d, State.accepts s .restart d [] ∧ fieldAt d.args 0 1 = 1 ∧ (s.ws .p).state ≠ .inactive ∧
      s.du.waitP.length < 8 ∧ s.ps.slot1.isSome = true) ∧
    (∃ s d, State.accepts s .restart d [] ∧ fieldAt d.args 0 1 = 1 ∧ (s.ws .p).state = .inactive) :=
  ⟨⟨withHead .restart .console [1] bothReady, _, head_accepts _ _ _ _ (by decide), by decide⟩,
    ⟨withHead .restart .console [1] State.reset, _, head_accepts _ _ _ _ (by decide), by decide⟩⟩

theorem witness_ResetDirectiveResetsThePlane :
    ∃ s d, State.accepts s .reset d [] ∧ s.tcu.opensSincePulse = 7 ∧ s.tcu.opensSincePulse < 8 :=
  ⟨withHead .reset .console [] { recording with tcu := { opensSincePulse := 7 } }, _,
    head_accepts _ _ _ _ (by decide), by decide⟩

end Sys2Proof.Tests
end

section
/-! What the execution of a directive at the head of the FIFO comes to (R178): one equation for a directive that
passes the DU's checks, and one rule for what no directive's execution changes. -/

namespace Sys2Proof.Machine

/-- A directive that passes the DU's checks goes to its owner, whose answer ends it. -/
theorem State.execute_of_accepts {s : State} {k : DirKind} {d : Directive} {rest : List Directive}
    (h : s.accepts k d rest) (owner : Directive → State → Taken) :
    s.execute k owner = (owner d (s.countTaken k)).state.answer d (owner d (s.countTaken k)).code
      (owner d (s.countTaken k)).data := by
  obtain ⟨hfifo, hcode, hcheck⟩ := h
  simp [State.execute, hfifo, hcode, hcheck]

/-- The outcome of an accepted directive that its owner takes. -/
theorem State.next_of_taken {s t : State} {k : DirKind} {d : Directive} {rest : List Directive}
    {owner : Directive → State → Taken} {rc : ReplyCode} {data : ReplyData} (h : s.accepts k d rest)
    (howner : owner d (s.countTaken k) = ⟨t, rc, data⟩) :
    (.next (s.execute k owner) : Host.Outcome State Fault Refusal) = .next (t.answer d rc data) := by
  rw [State.execute_of_accepts h, howner]

/-- The outcome of an accepted directive that its owner refuses: it is counted and answered, no more. -/
theorem State.next_of_refused {s : State} {k : DirKind} {d : Directive} {rest : List Directive}
    {owner : Directive → State → Taken} {rc : ReplyCode} (h : s.accepts k d rest)
    (howner : owner d (s.countTaken k) = refuse (s.countTaken k) rc) :
    (.next (s.execute k owner) : Host.Outcome State Fault Refusal) = .next ((s.countTaken k).answer d rc .none) :=
  State.next_of_taken h howner

/-- What an answer, the count of a directive taken and the owner keep, an execution keeps. -/
theorem State.execute_induction {P : State → Prop} {k : DirKind} {owner : Directive → State → Taken} {s : State}
    (hs : P s) (hanswer : ∀ (t : State) d rc data, P t → P (t.answer d rc data))
    (howner : ∀ d, P (owner d (s.countTaken k)).state) : P (s.execute k owner) := by
  unfold State.execute
  split
  · exact hs
  · split
    · exact hs
    · split
      · exact hanswer _ _ _ _ hs
      · exact hanswer _ _ _ _ (howner _)

end Sys2Proof.Machine
end

section
/-! The rings of the two streams: only SET RING and the reset line write them (R13, R17, R18). -/

namespace Sys2Proof.Machine

/-- The rings of stream F and of stream P. -/
def State.rings (s : State) : Option Ring × Option Ring := (s.prs.f.ring, s.prs.p.ring)

theorem State.rings_of_prs {s t : State} (h : t.prs = s.prs) : t.rings = s.rings := by
  simp [State.rings, h]

theorem State.ringsApart_of_rings {s t : State} (h : t.rings = s.rings) (hs : s.ringsApart) : t.ringsApart := by
  obtain ⟨hf, hp⟩ := Prod.mk.inj h
  simpa only [State.ringsApart, hf, hp] using hs

@[simp] theorem State.rings_answer (s : State) (d : Directive) (rc : ReplyCode) (data : ReplyData) :
    (s.answer d rc data).rings = s.rings := rings_of_prs (by simp)

@[simp] theorem State.rings_countTaken (s : State) (k : DirKind) : (s.countTaken k).rings = s.rings := rfl

/-- An owner that leaves the rings leaves them over the whole execution. -/
theorem State.rings_execute {k : DirKind} {owner : Directive → State → Taken}
    (howner : ∀ d s, (owner d s).state.rings = s.rings) (s : State) : (s.execute k owner).rings = s.rings :=
  State.execute_induction (P := fun t => t.rings = s.rings) rfl (fun _ _ _ _ h => by simpa using h)
    (fun d => by simp [howner])

/-- An owner that leaves the Profile Store leaves the rings over the whole execution. -/
theorem State.rings_execute_of_prs {k : DirKind} {owner : Directive → State → Taken}
    (howner : ∀ d s, (owner d s).state.prs = s.prs) (s : State) : (s.execute k owner).rings = s.rings :=
  State.rings_execute (fun d s => State.rings_of_prs (howner d s)) s

/-! ## Updates of the tables -/

theorem State.rings_setTables {s : State} {st : Stream} {t : StreamTables} (h : t.ring = (s.tables st).ring) :
    (s.setTables st t).rings = s.rings := by
  cases st <;> simp_all [State.rings]

@[simp] theorem State.rings_setCtx (s : State) (st : Stream) (c : Ctx) : (s.setCtx st c).rings = s.rings :=
  State.rings_of_prs (by simp)

@[simp] theorem State.rings_setWs (s : State) (st : Stream) (w : WorkingSet) : (s.setWs st w).rings = s.rings :=
  State.rings_of_prs (by simp)

@[simp] theorem State.rings_pendProfile (s : State) (st : Stream) (r : ProfileRec) :
    (s.pendProfile st r).rings = s.rings := by
  simp [State.pendProfile, State.rings_setTables]

@[simp] theorem State.rings_pendLadder (s : State) (st : Stream) (steps : List Nat) :
    (s.pendLadder st steps).rings = s.rings := by
  simp [State.pendLadder, State.rings_setTables]

@[simp] theorem State.rings_useSerial (s : State) : s.useSerial.rings = s.rings := rfl

@[simp] theorem State.rings_activate (s : State) (st : Stream) (n : Nat) : (s.activate st n).rings = s.rings := by
  have hdue : (s.setTables st ((s.tables st).applyDue n)).rings = s.rings := State.rings_setTables rfl
  simp only [State.activate]
  split <;> simp [hdue]

/-! ## The coder's turns, which activate at a picture start (R67) -/

@[simp] theorem State.rings_endEmptyTurn (s : State) : s.endEmptyTurn.rings = s.rings :=
  State.rings_of_prs (by simp)

@[simp] theorem State.rings_discardRow (s : State) (st : Stream) (p : ProfileRec) :
    (s.discardRow st p).rings = s.rings := State.rings_of_prs (by simp)

@[simp] theorem State.rings_reserveAndStart (s : State) (st : Stream) (source : Nat) (p : ProfileRec) :
    (s.reserveAndStart st source p).rings = s.rings := State.rings_of_prs (by simp)

@[simp] theorem State.rings_editFifo (s : State) (f : List FifoEntry → List FifoEntry) :
    (s.editFifo f).rings = s.rings := rfl

@[simp] theorem State.rings_startPicture (s : State) (st : Stream) (source : Nat) (activate : Bool) :
    (s.startPicture st source activate).rings = s.rings := by
  simp only [State.startPicture]; (repeat' split) <;> simp

@[simp] theorem State.rings_continueF (s : State) (t : Turn) : (s.continueF t).rings = s.rings := by
  unfold State.continueF; (repeat' split) <;> simp

@[simp] theorem State.rings_continueP (s : State) (t : Turn) : (s.continueP t).rings = s.rings := by
  unfold State.continueP; (repeat' split) <;> simp

/-- The requests read at the choice, applied before the turn goes on, leave the Profile Store (R63 to R66). -/
@[simp] theorem State.rings_startTurn (s : State) (t : Turn) : (s.startTurn t).rings = s.rings := by
  have hrestart : (if t.restart then s.applyRestart t.stream t.abandon else s).prs = s.prs := by split <;> simp
  simp only [State.startTurn]
  split <;> simp only [State.rings_continueF, State.rings_continueP]
  all_goals
    refine State.rings_of_prs ?_
    repeat' split
    all_goals simp

@[simp] theorem State.rings_giveTurn (s : State) (st : Stream) : (s.giveTurn st).rings = s.rings := by
  have hchoose : ({ s with tc := s.tc.choose (s.newTurn st) } : State).rings = s.rings := rfl
  simp only [State.giveTurn]
  split <;> simp [hchoose]

theorem State.rings_arbiterChoice (s : State) : s.arbiterChoice.rings = s.rings := by
  unfold State.arbiterChoice; split <;> simp

theorem State.rings_handOver (s : State) : s.handOver.rings = s.rings := by
  unfold State.handOver
  split
  · rfl
  · split
    · exact (State.rings_startTurn ..).trans (State.rings_of_prs (by simp))
    · rfl

/-! ## The owners of the directives -/

@[simp] theorem State.rings_loadF (s : State) (x : Settings) (clamped : Bool) :
    (s.loadF x clamped).state.rings = s.rings := by
  simp only [State.loadF]; split <;> simp

@[simp] theorem State.rings_loadP (s : State) (x : Settings) (clamped : Bool) :
    (s.loadP x clamped).state.rings = s.rings := by
  simp [State.loadP]

theorem ownLoadProfile_rings (d : Directive) (s : State) : (ownLoadProfile d s).state.rings = s.rings := by
  unfold ownLoadProfile; (repeat' split) <;> simp [refuse]

theorem ownLoadLadder_rings (d : Directive) (s : State) : (ownLoadLadder d s).state.rings = s.rings := by
  simp only [ownLoadLadder]; (repeat' split) <;> simp [refuse]

theorem ownSetLanes_rings (d : Directive) (s : State) : (ownSetLanes d s).state.rings = s.rings := by
  unfold ownSetLanes; (repeat' split) <;> rfl

theorem ownSetLaneBFeed_rings (d : Directive) (s : State) : (ownSetLaneBFeed d s).state.rings = s.rings := by
  unfold ownSetLaneBFeed; split <;> rfl

theorem ownSetTrigger_rings (d : Directive) (s : State) : (ownSetTrigger d s).state.rings = s.rings := by
  unfold ownSetTrigger; split <;> rfl

/-- RESET promotes pending records and leaves the rings (R18). -/
theorem ownReset_rings (d : Directive) (s : State) : (ownReset d s).state.rings = s.rings := by
  simp [ownReset, State.resetPlane, State.resetBlocks, StreamTables.promote, State.rings]

theorem ownSetTimecode_prs (d : Directive) (s : State) : (ownSetTimecode d s).state.prs = s.prs := by
  simp only [ownSetTimecode]; (repeat' split) <;> simp [refuse]

theorem ownJam_prs (d : Directive) (s : State) : (ownJam d s).state.prs = s.prs := by
  simp only [ownJam]; (repeat' split) <;> rfl

theorem ownDisarm_prs (d : Directive) (s : State) : (ownDisarm d s).state.prs = s.prs := by
  unfold ownDisarm; split <;> rfl

theorem ownStart_prs (d : Directive) (s : State) : (ownStart d s).state.prs = s.prs := by
  simp only [ownStart]; split <;> simp [refuse]

theorem ownStop_prs (d : Directive) (s : State) : (ownStop d s).state.prs = s.prs := by
  simp only [ownStop]; (repeat' split) <;> simp [refuse]

theorem ownMark_prs (d : Directive) (s : State) : (ownMark d s).state.prs = s.prs := by
  simp only [ownMark]; (repeat' split) <;> simp [refuse]

theorem ownReadTake_prs (d : Directive) (s : State) : (ownReadTake d s).state.prs = s.prs := by
  unfold ownReadTake; split <;> rfl

theorem State.clearGroup_prs (s : State) (g : Group) : (s.clearGroup g).prs = s.prs := by
  cases g <;> rfl

theorem ownQuery_prs (d : Directive) (s : State) : (ownQuery d s).state.prs = s.prs := by
  simp only [ownQuery]; (repeat' split) <;> simp [refuse, State.clearGroup_prs]

/-! ## SET RING and the whole step -/

theorem Ring.disjoint_iff (a b : Ring) :
    a.disjoint b = true ↔ a.base + a.pages ≤ b.base ∨ b.base + b.pages ≤ a.base := by
  simp [Ring.disjoint]

theorem Ring.holds_iff (r : Ring) (x : Option ProfileRec) :
    r.holds x = true ↔ ∀ p, x = some p → p.valid = true → 2 * p.reservation ≤ r.pages * 65536 := by
  cases x with
  | none => simp [Ring.holds]
  | some p =>
    simp only [Ring.holds, Bool.or_eq_true, Bool.not_eq_true', decide_eq_true_eq]
    cases hv : p.valid <;> simp [hv, Ring.bytes, pageBytes]

/-- The range checks of R13: inside the store, apart from the other stream's ring, and room for two reservations of
the active and of the pending profile. -/
theorem State.ringFits_iff (s : State) (st : Stream) (r : Ring) :
    s.ringFits st r = true ↔ 1 ≤ r.pages ∧ r.base + r.pages ≤ 65536 ∧
      (∀ o, (s.tables st.other).ring = some o → r.base + r.pages ≤ o.base ∨ o.base + o.pages ≤ r.base) ∧
      (∀ p, (s.tables st).profile = some p → p.valid = true → 2 * p.reservation ≤ r.pages * 65536) ∧
      ∀ p, (s.tables st).pendingProfile = some p → p.record.valid = true →
        2 * p.record.reservation ≤ r.pages * 65536 := by
  have hpending : (∀ p, (s.tables st).pendingProfile.map PendingProfile.record = some p → p.valid = true →
        2 * p.reservation ≤ r.pages * 65536) ↔
      ∀ p, (s.tables st).pendingProfile = some p → p.record.valid = true →
        2 * p.record.reservation ≤ r.pages * 65536 := by
    cases (s.tables st).pendingProfile <;> simp
  cases ho : (s.tables st.other).ring with
  | none => simp [State.ringFits, ho, Ring.holds_iff, -Option.map_eq_some_iff, hpending, and_assoc]
  | some o => simp [State.ringFits, ho, Ring.holds_iff, Ring.disjoint_iff, -Option.map_eq_some_iff, hpending, and_assoc]

/-- A ring that meets the range checks keeps the rings apart. -/
theorem State.ringsApart_setRing {s : State} {st : Stream} {r : Ring} (hs : s.ringsApart)
    (h : s.ringFits st r = true) : (s.setRing st r).ringsApart := by
  obtain ⟨hpages, hend, hother, -, -⟩ := (s.ringFits_iff st r).1 h
  have hstore : r.inStore := ⟨hpages, hend⟩
  obtain ⟨hf, hp, hfp⟩ := hs
  cases st with
  | f =>
    refine ⟨fun a ha => ?_, hp, fun a b ha hb => ?_⟩
    · cases ha; exact hstore
    · cases ha; exact (Ring.disjoint_iff ..).2 (hother b hb)
  | p =>
    refine ⟨hf, fun b hb => ?_, fun a b ha hb => ?_⟩
    · cases hb; exact hstore
    · cases hb; exact (Ring.disjoint_iff ..).2 (hother a ha).symm

theorem ownSetRing_ringsApart (d : Directive) {s : State} (hs : s.ringsApart) : (ownSetRing d s).state.ringsApart := by
  simp only [ownSetRing]
  split
  · exact hs
  · split
    · exact hs
    · split
      · exact hs
      · next hfits => exact State.ringsApart_setRing hs (by simpa using hfits)

theorem execSetRing_ringsApart {s : State} (hs : s.ringsApart) : (s.execute .setRing ownSetRing).ringsApart :=
  State.execute_induction hs (fun _ _ _ _ h => State.ringsApart_of_rings (by simp) h)
    (fun d => ownSetRing_ringsApart d (State.ringsApart_of_rings (by simp) hs))

/-- Every command but SET RING and the reset line leaves the rings as they were. -/
theorem exec_rings {c : Instr} (hring : c ≠ .setRing) (hline : ∀ trigHigh, c ≠ .resetLine trigHigh) (s : State) :
    ∃ t, exec c s = .next t ∧ t.rings = s.rings := by
  cases c with
  | setRing => exact absurd rfl hring
  | resetLine trigHigh => exact absurd rfl (hline trigHigh)
  | arbiterChoice => exact ⟨_, rfl, s.rings_arbiterChoice⟩
  | handOver => exact ⟨_, rfl, s.rings_handOver⟩
  | loadProfile => exact ⟨_, rfl, State.rings_execute ownLoadProfile_rings s⟩
  | loadLadder => exact ⟨_, rfl, State.rings_execute ownLoadLadder_rings s⟩
  | setLanes => exact ⟨_, rfl, State.rings_execute ownSetLanes_rings s⟩
  | setLaneBFeed => exact ⟨_, rfl, State.rings_execute ownSetLaneBFeed_rings s⟩
  | setTrigger => exact ⟨_, rfl, State.rings_execute ownSetTrigger_rings s⟩
  | reset => exact ⟨_, rfl, State.rings_execute ownReset_rings s⟩
  | setTimecode => exact ⟨_, rfl, State.rings_execute_of_prs ownSetTimecode_prs s⟩
  | jam => exact ⟨_, rfl, State.rings_execute_of_prs ownJam_prs s⟩
  | arm => exact ⟨_, rfl, State.rings_execute_of_prs (fun _ _ => rfl) s⟩
  | disarm => exact ⟨_, rfl, State.rings_execute_of_prs ownDisarm_prs s⟩
  | start => exact ⟨_, rfl, State.rings_execute_of_prs ownStart_prs s⟩
  | stop => exact ⟨_, rfl, State.rings_execute_of_prs ownStop_prs s⟩
  | mark => exact ⟨_, rfl, State.rings_execute_of_prs ownMark_prs s⟩
  | query => exact ⟨_, rfl, State.rings_execute_of_prs ownQuery_prs s⟩
  | readTake => exact ⟨_, rfl, State.rings_execute_of_prs ownReadTake_prs s⟩
  | clearTakes => exact ⟨_, rfl, State.rings_execute_of_prs (fun _ _ => rfl) s⟩
  | unknownDirective =>
    simp only [exec, execUnknownDirective]
    (repeat' split) <;> exact ⟨_, rfl, by simp⟩
  | headerFailure | badPacket | openPacket | tilePacket | closePacket | directivePacket | fillPacket | refPulse
  | refLost | trigEdge | creditPulse | laneStall | lanePacketSent | codeTile | passByEntry | passByRow | restart =>
    exact ⟨_, rfl, State.rings_of_prs (by simp)⟩

/-- The reset line leaves no ring set (R17). -/
theorem State.ringsApart_afterResetLine (s : State) (trigHigh : Bool) : (s.afterResetLine trigHigh).ringsApart :=
  ⟨fun _ h => (nomatch h), fun _ h => (nomatch h), fun _ _ h _ => (nomatch h)⟩

/-- No command leads out of `ringsApart`. -/
theorem exec_ringsApart {c : Instr} {s t : State} (hs : s.ringsApart) (h : exec c s = .next t) : t.ringsApart := by
  by_cases hring : c = .setRing
  · subst hring; cases h
    exact execSetRing_ringsApart hs
  by_cases hline : ∃ trigHigh, c = .resetLine trigHigh
  · obtain ⟨trigHigh, rfl⟩ := hline; cases h
    exact s.ringsApart_afterResetLine trigHigh
  obtain ⟨t', ht', hrings⟩ := exec_rings hring (by simpa using hline) s
  cases ht'.symm.trans h
  exact State.ringsApart_of_rings hrings hs

/-- Settles O8: with a command waiting, the step is that command's execution; idle, it changes nothing. -/
theorem ringsStayInTheStoreAndApart : Obligations.RingsStayInTheStoreAndApart := by
  intro s t hs h
  unfold step at h
  split at h
  · cases h; exact hs
  · next c rest _ =>
    have hs' : ({ s with pending := rest } : State).ringsApart := hs
    exact exec_ringsApart hs' h

end Sys2Proof.Machine
end

section
/-! The two resets: what the reset line and the RESET directive leave in every block (R17, R18, R174, R184). -/

namespace Sys2Proof.Machine

/-! ## The reset line -/

/-- Settles O4: the reset line puts the blocks at the values of `State.reset`. -/
theorem resetLineEmptiesTheBlocks : Obligations.ResetLineEmptiesTheBlocks := by
  intro trigHigh s
  refine ⟨s.afterResetLine trigHigh, rfl, ⟨rfl, rfl, rfl, rfl, rfl, rfl, rfl, rfl, rfl⟩,
    fun st => ?tables, ⟨rfl, rfl⟩, ⟨rfl, rfl, rfl, rfl, rfl, rfl, rfl, rfl⟩, ⟨rfl, rfl, rfl, rfl⟩, fun st => ?contexts,
    fun st => ?rings, ⟨rfl, rfl, rfl, rfl⟩,
    ⟨rfl, rfl, rfl, rfl, rfl, rfl, rfl, rfl, rfl, rfl, rfl, rfl, rfl, rfl, rfl⟩,
    ⟨rfl, rfl, rfl, rfl, rfl, rfl, rfl, rfl, rfl, rfl, rfl, rfl⟩, ⟨rfl, rfl, rfl, rfl⟩, rfl, rfl⟩
  case tables => cases st <;> exact ⟨rfl, rfl, rfl, rfl, rfl⟩
  case contexts =>
    cases st <;> exact ⟨rfl, rfl, rfl, rfl, rfl, rfl, rfl, rfl, rfl, rfl, rfl, rfl, rfl, rfl, rfl, rfl⟩
  case rings => cases st <;> exact ⟨rfl, rfl, rfl, rfl, rfl, rfl, rfl⟩

/-! ## The invariants at reset -/

theorem State.reset_queuesBounded : State.reset.queuesBounded := by unfold State.queuesBounded; decide

theorem LaneSender.empty_countsBounded : ({} : LaneSender).countsBounded := by
  unfold LaneSender.countsBounded; decide

theorem State.reset_countsBounded : State.reset.countsBounded :=
  ⟨by decide, by decide, by decide, by decide, by decide, by decide, by decide, by decide, by decide,
    LaneSender.empty_countsBounded, LaneSender.empty_countsBounded⟩

/-- The label 00:00:00:00 is valid for base 25 without drop; no other label is held at reset. -/
theorem State.reset_labelsValid : State.reset.tcu.labelsValid :=
  ⟨⟨by decide, by decide⟩, by decide, by decide, fun _ h => (nomatch h), fun _ h => (nomatch h), fun _ h => (nomatch h)⟩

theorem State.reset_oneOpenTake : State.reset.oneOpenTake := by unfold State.oneOpenTake; decide

/-- Settles O5. -/
theorem invariantsHoldAtReset : Obligations.InvariantsHoldAtReset :=
  ⟨rfl, State.reset.ringsApart_afterResetLine false, State.reset_queuesBounded, State.reset_countsBounded,
    State.reset_labelsValid, State.reset_oneOpenTake⟩

/-! ## The lane senders at the RESET directive -/

@[simp] theorem State.setRingState_ringState (s : State) (st : Stream) : s.setRingState st (s.ringState st) = s := by
  cases st <;> rfl

@[simp] theorem State.setLane_lane (s : State) (l : LaneId) : s.setLane l (s.lane l) = s := by
  cases l <;> rfl

@[simp] theorem State.setLane_setLane (s : State) (l : LaneId) (x y : LaneSender) :
    (s.setLane l x).setLane l y = s.setLane l y := by
  cases l <;> rfl

@[simp] theorem State.ringState_setLane (s : State) (l : LaneId) (x : LaneSender) (st : Stream) :
    (s.setLane l x).ringState st = s.ringState st := by
  cases l <;> rfl

/-- An empty directory has no entry to write to. -/
theorem State.editEntry_of_empty {s : State} {st : Stream} (h : (s.ringState st).dir = []) (source : Nat)
    (f : DirEntry → DirEntry) : s.editEntry st source f = s := by
  have hdir : modifyEntry source f (s.ringState st).dir = (s.ringState st).dir := by simp [h, modifyEntry]
  rw [State.editEntry, hdir]
  exact s.setRingState_ringState st

/-- An empty directory has no entry to release (R109). -/
theorem State.ordinaryRelease_of_empty {s : State} {st : Stream} (h : (s.ringState st).dir = []) :
    s.ordinaryRelease st = s := by
  simp [State.ordinaryRelease, h]

/-- With no unit in the directories the end of a packet concerns its lane alone (R166). -/
theorem State.packetEnded_of_empty {s : State} (h : ∀ st, (s.ringState st).dir = []) (l : LaneId) (k : Packet) :
    ∃ x, s.packetEnded l k = s.setLane l x := by
  cases k with
  | marker m => exact ⟨_, rfl⟩
  | report r => exact ⟨s.lane l, (s.setLane_lane l).symm⟩
  | segment g =>
    simp only [State.packetEnded, State.segmentSent]
    split
    · have hsent : ∃ x, s.unitSent l g.stream g.source = s.setLane l x := by
        simp [State.unitSent, State.editEntry_of_empty (h _)]
      obtain ⟨x, hx⟩ := hsent
      exact ⟨x, by rw [hx, State.ordinaryRelease_of_empty (by simp [h])]⟩
    · exact ⟨s.lane l, by rw [State.ordinaryRelease_of_empty (h _), State.setLane_lane]⟩

/-- With no unit in the directories, the completion of a packet before a lane's reset leaves nothing behind (R174). -/
theorem State.resetLane_of_empty {s : State} (h : ∀ st, (s.ringState st).dir = []) (l : LaneId) :
    s.resetLane l = s.setLane l {} := by
  simp only [State.resetLane, State.finishPacket]
  split
  · rfl
  · next k _ =>
    obtain ⟨x, hx⟩ := State.packetEnded_of_empty h l k
    simp [hx]

/-- The plane after RESET: every block reset, and both lane senders empty. -/
theorem State.resetPlane_eq (s : State) : s.resetPlane = { s.resetBlocks with lsA := {}, lsB := {} } := by
  have hempty : ∀ st, (s.resetBlocks.ringState st).dir = [] := fun st => by cases st <;> rfl
  have hempty' : ∀ st, ((s.resetBlocks.setLane .a {}).ringState st).dir = [] := fun st => by
    rw [State.ringState_setLane, hempty]
  rw [State.resetPlane, State.resetLane_of_empty hempty, State.resetLane_of_empty hempty']
  rfl

/-! ## The RESET directive -/

/-- With no REF loss due there is none to take (R123). -/
theorem State.takeRefLoss_of_not_due {s : State} (h : s.tcu.refPresent = false ∨ s.tcu.opensSincePulse < 8) :
    s.takeRefLoss = s := by
  have hdue : s.tcu.lossDue = false := by
    rcases h with h | h
    · simp [Tcu.lossDue, h]
    · simp [Tcu.lossDue, h]
  simp [State.takeRefLoss, hdue]

/-- A privileged directive that passes the DU's checks comes from the console (R178). -/
theorem State.accepts_cls {s : State} {k : DirKind} {d : Directive} {rest : List Directive} (h : s.accepts k d rest)
    (hk : k.privileged = true) : d.cls = .console := by
  obtain ⟨-, -, hcheck⟩ := h
  cases hc : d.cls with
  | console => rfl
  | accessory => simp [DirKind.check, hk, hc] at hcheck

/-- The tables after RESET: what was pending is active, and nothing is pending (R18). -/
theorem StreamTables.promote_tables (t : StreamTables) :
    t.promote.ring = t.ring ∧ t.promote.pendingProfile = none ∧ t.promote.pendingLadder = none ∧
      t.promote.profile = (t.pendingProfile.map PendingProfile.record <|> t.profile) ∧
      t.promote.ladder = (t.pendingLadder.map PendingLadder.steps <|> t.ladder) := by
  refine ⟨rfl, rfl, rfl, ?_, ?_⟩
  · cases h : t.pendingProfile <;> simp [StreamTables.promote, h]
  · cases h : t.pendingLadder <;> simp [StreamTables.promote, h]

theorem StreamTables.resetContext_q (t : StreamTables) :
    t.resetContext.q = (t.profile.map ProfileRec.qstart).getD 0 := by
  cases h : t.profile <;> simp [StreamTables.resetContext, h]

/-- A context is READY after RESET when its stream has a valid profile and a ladder (R76). -/
theorem StreamTables.resetContext_state (t : StreamTables) :
    t.resetContext.state = if (∃ p, t.profile = some p ∧ p.valid = true) ∧ t.ladder ≠ none then .ready
      else .inactive := by
  have hactive : t.active.isSome = true ↔ ∃ p, t.profile = some p ∧ p.valid = true := by
    cases h : t.profile with
    | none => simp [StreamTables.active, h]
    | some p => cases hv : p.valid <;> simp [StreamTables.active, h, hv]
  have hladder : t.ladder.isSome = true ↔ t.ladder ≠ none := Option.isSome_iff_ne_none
  simp only [StreamTables.resetContext, Bool.and_eq_true, hactive, hladder]

/-- Settles O60. The blocks are reset and the lanes empty when the reply is queued, so Lane A takes it for sending at
once. -/
theorem resetDirectiveResetsThePlane : Obligations.ResetDirectiveResetsThePlane := by
  intro s d rest hacc hloss
  have hcls : d.cls = .console := State.accepts_cls hacc rfl
  have htaken : ownReset d (s.countTaken .reset) =
      ⟨{ (s.countTaken .reset).resetBlocks with lsA := {}, lsB := {} }, .done, .none⟩ := by
    rw [ownReset, State.takeRefLoss_of_not_due (by simpa using hloss), State.resetPlane_eq]
  refine ⟨_, State.next_of_taken hacc htaken, ?_⟩
  simp only [State.answer, hcls]
  generalize ht : State.popDirective _ = t
  have hfifo : t.du.fifo = rest := by subst ht; exact congrArg List.tail hacc.1
  have htables : ∀ st, t.tables st = (s.tables st).promote := fun st => by subst ht; cases st <;> rfl
  have hws : ∀ st, t.ws st = (s.tables st).promote.resetContext := fun st => by subst ht; cases st <;> rfl
  have hctx : ∀ st, t.ctx st = { ws := (s.tables st).promote.resetContext } := fun st => by
    subst ht; cases st <;> rfl
  have hrings : ∀ st, t.ringState st = {} := fun st => by subst ht; cases st <;> rfl
  subst ht
  refine ⟨hfifo, rfl, rfl, rfl, rfl, rfl, ⟨rfl, rfl, rfl, rfl, rfl, rfl, rfl, rfl, rfl⟩,
    rfl, rfl, fun st => ?streams, ⟨rfl, rfl, rfl, rfl, rfl, rfl, rfl, rfl⟩, ⟨rfl, rfl, rfl, rfl⟩, ⟨rfl, rfl, rfl, rfl⟩,
    rfl, ⟨rfl, rfl, rfl, rfl, rfl, rfl, rfl, rfl, rfl, rfl, rfl, rfl⟩, rfl⟩
  case streams =>
    rw [htables, hws, hctx, hrings]
    obtain ⟨hring, hpendingProfile, hpendingLadder, hprofile, hladder⟩ := (s.tables st).promote_tables
    exact ⟨hring, hpendingProfile, hpendingLadder, hprofile, hladder, rfl, rfl, StreamTables.resetContext_q _,
      StreamTables.resetContext_state _, rfl, rfl, rfl, rfl, rfl, rfl, rfl, rfl, rfl, rfl, rfl, rfl, rfl, rfl, rfl, rfl,
      rfl, rfl, rfl⟩

end Sys2Proof.Machine
end

section
/-! The settings of the Profile Store: what each directive's checks say, and what a directive that passes them
replaces (R2 to R16). -/

namespace Sys2Proof.Machine

/-! ## Coded values -/

@[simp] theorem inRange_iff (lo hi v : Nat) : inRange lo hi v = true ↔ lo ≤ v ∧ v ≤ hi := by simp [inRange]

theorem streamOf_eq_none_iff (n : Nat) : streamOf n = none ↔ 2 ≤ n := by
  match n with
  | 0 | 1 => simp [streamOf]
  | n + 2 => simp [streamOf]

theorem trigModeOf_eq_none_iff (n : Nat) : trigModeOf n = none ↔ 4 ≤ n := by
  match n with
  | 0 | 1 | 2 | 3 => simp [trigModeOf]
  | n + 4 => simp [trigModeOf]

/-- Table 1-3 lists the rate codes 0 to 8. -/
theorem rateFraction_isNone (n : Nat) : (rateFraction n).isNone = true ↔ 8 < n := by
  match n with
  | 0 | 1 | 2 | 3 | 4 | 5 | 6 | 7 | 8 => simp [rateFraction]
  | n + 9 => simp [rateFraction]

/-! ## The count of a directive taken touches nothing that the checks read -/

@[simp] theorem State.tables_countTaken (s : State) (k : DirKind) (st : Stream) :
    (s.countTaken k).tables st = s.tables st := by cases st <;> rfl

@[simp] theorem State.ringState_countTaken (s : State) (k : DirKind) (st : Stream) :
    (s.countTaken k).ringState st = s.ringState st := by cases st <;> rfl

@[simp] theorem State.checkF_countTaken (s : State) (k : DirKind) (x : Settings) :
    (s.countTaken k).checkF x = s.checkF x := rfl

@[simp] theorem State.checkP_countTaken (s : State) (k : DirKind) (args : List Byte) :
    (s.countTaken k).checkP args = s.checkP args := rfl

@[simp] theorem State.ladderFits_countTaken (s : State) (k : DirKind) (st : Stream) (steps : List Nat) :
    (s.countTaken k).ladderFits st steps = s.ladderFits st steps := by
  simp [State.ladderFits]

@[simp] theorem State.ringFree_countTaken (s : State) (k : DirKind) (st : Stream) :
    (s.countTaken k).ringFree st = s.ringFree st := by
  simp [State.ringFree]

@[simp] theorem State.ringFits_countTaken (s : State) (k : DirKind) (st : Stream) (r : Ring) :
    (s.countTaken k).ringFits st r = s.ringFits st r := by
  simp [State.ringFits]

/-! ## SET RING (R13) -/

theorem State.ringFree_iff (s : State) (st : Stream) :
    s.ringFree st = true ↔
      s.tkc.ctl = .idle ∧ (s.ringState st).dir = [] ∧ (s.ringState st).reservation = none := by
  simp [State.ringFree, and_assoc]

theorem State.tables_setRing (s : State) (st : Stream) (r : Ring) :
    (s.setRing st r).tables st = { s.tables st with ring := some r } := by
  cases st <;> rfl

theorem State.ringState_setRing (s : State) (st : Stream) (r : Ring) :
    (s.setRing st r).ringState st = { s.ringState st with
      tail := 0, head := 0, allocated := 0, reservation := none, spillLatch := false } := by
  cases st <;> rfl

/-- SET RING takes its two groups of checks in order: BUSY before RANGE (R13). -/
theorem ownSetRing_eq {d : Directive} {st : Stream} (hst : streamOf (fieldAt d.args 0 1) = some st) {r : Ring}
    (hr : r = ⟨fieldAt d.args 1 2, fieldAt d.args 3 4⟩) (s : State) :
    ownSetRing d s = if s.ringFree st = true then
        if s.ringFits st r = true then ⟨s.setRing st r, .done, .none⟩ else refuse s .refusedRange
      else refuse s .refusedBusy := by
  subst hr
  simp only [ownSetRing, hst]
  cases s.ringFree st <;> cases s.ringFits st ⟨fieldAt d.args 1 2, fieldAt d.args 3 4⟩ <;> rfl

/-- Settles O50. -/
theorem setRingReplacesTheRing : Obligations.SetRingReplacesTheRing := by
  intro s d rest st r hacc hst hr
  have howner := ownSetRing_eq hst hr (s.countTaken .setRing)
  simp only [State.ringFree_countTaken, State.ringFits_countTaken] at howner
  refine ⟨fun hbusy => State.next_of_refused hacc ?_, fun hctl hdir hres => ?_⟩
  · rw [howner, if_neg]
    rw [State.ringFree_iff]; tauto
  · rw [if_pos ((s.ringFree_iff st).2 ⟨hctl, hdir, hres⟩)] at howner
    rw [← s.ringFits_iff st r]
    refine ⟨fun hfits => ⟨State.next_of_taken hacc ?_, s.tables_setRing st r, s.ringState_setRing st r⟩,
      fun hfits => State.next_of_refused hacc ?_⟩
    · rw [howner, if_pos hfits]
    · rw [howner, if_neg hfits]

/-! ## SET LANES, SET LANE B FEED and SET TRIGGER (R14 to R16) -/

/-- The codes and the Bmax a SET LANES may carry, and the map it asks for with P stored for Lane B. -/
theorem laneRequest_eq_some {args : List Byte} {aF aP : Bool} {feed : Feed} {st : Stream}
    (hF : carriageOf (fieldAt args 0 1) = some aF) (hP : carriageOf (fieldAt args 1 1) = some aP)
    (hfeed : feedOf (fieldAt args 2 1) = some feed) (hst : streamOf (fieldAt args 3 1) = some st)
    (hlo : 1 ≤ fieldAt args 4 1) (hhi : fieldAt args 4 1 ≤ 16) :
    laneRequest args = some (⟨aF, aP, feed, .p, fieldAt args 4 1⟩, st == .f) := by
  have hbmax : inRange 1 16 (fieldAt args 4 1) = true := (inRange_iff ..).2 ⟨hlo, hhi⟩
  simp [laneRequest, hF, hP, hfeed, hst, hbmax]

theorem laneRequest_eq_none {args : List Byte}
    (h : carriageOf (fieldAt args 0 1) = none ∨ carriageOf (fieldAt args 1 1) = none ∨
      feedOf (fieldAt args 2 1) = none ∨ streamOf (fieldAt args 3 1) = none ∨
      fieldAt args 4 1 = 0 ∨ 16 < fieldAt args 4 1) : laneRequest args = none := by
  unfold laneRequest
  split
  · next hF hP hfeed hst hbmax =>
    have hbmax' := (inRange_iff ..).1 hbmax
    simp only [hF, hP, hfeed, hst, reduceCtorEq, false_or] at h
    omega
  all_goals rfl

theorem LaneMap.sameCarriage_iff (a b : LaneMap) :
    a.sameCarriage b = true ↔ a.aF = b.aF ∧ a.aP = b.aP ∧ a.bStream = b.bStream := by
  simp [LaneMap.sameCarriage, and_assoc]

theorem ownSetLanes_of_none {d : Directive} (h : laneRequest d.args = none) (s : State) :
    ownSetLanes d s = refuse s .refusedRange := by
  simp [ownSetLanes, h]

/-- A legal SET LANES that changes what a take holds is refused while a take is not CLOSED (R14). -/
theorem ownSetLanes_of_change {d : Directive} {m : LaneMap} {namedF : Bool}
    (hrequest : laneRequest d.args = some (m, namedF)) {s : State} (hbusy : s.tkc.busy = true)
    (hchange : m.aF ≠ s.prs.lanes.aF ∨ m.aP ≠ s.prs.lanes.aP ∨ m.bStream ≠ s.prs.lanes.bStream) :
    ownSetLanes d s = refuse s .refusedBusy := by
  have hdiff : m.sameCarriage s.prs.lanes = false := by
    rw [← Bool.not_eq_true, LaneMap.sameCarriage_iff]; tauto
  simp [ownSetLanes, hrequest, hbusy, hdiff]

/-- Any other legal SET LANES replaces the whole record (R14). -/
theorem ownSetLanes_of_same {d : Directive} {m : LaneMap} {namedF : Bool}
    (hrequest : laneRequest d.args = some (m, namedF)) {s : State}
    (hsame : s.tkc.busy = false ∨ m.aF = s.prs.lanes.aF ∧ m.aP = s.prs.lanes.aP ∧ m.bStream = s.prs.lanes.bStream) :
    ownSetLanes d s = ⟨s.setLaneMap m, if namedF then .doneConflict else .done, .none⟩ := by
  rcases hsame with hidle | hsame
  · simp [ownSetLanes, hrequest, hidle]
  · simp [ownSetLanes, hrequest, (LaneMap.sameCarriage_iff ..).2 hsame]

/-- SET LANE B FEED changes the feed and Bmax of the record and keeps its other fields (R15). -/
theorem ownSetLaneBFeed_of_some {d : Directive} {feed : Feed} (hfeed : feedOf (fieldAt d.args 0 1) = some feed)
    (hlo : 1 ≤ fieldAt d.args 1 1) (hhi : fieldAt d.args 1 1 ≤ 16) (s : State) :
    ownSetLaneBFeed d s =
      ⟨s.setLaneMap { s.prs.lanes with feed := feed, bmax := fieldAt d.args 1 1 }, .done, .none⟩ := by
  have hbmax : inRange 1 16 (fieldAt d.args 1 1) = true := (inRange_iff ..).2 ⟨hlo, hhi⟩
  simp [ownSetLaneBFeed, hfeed, hbmax]

theorem ownSetLaneBFeed_of_bad {d : Directive}
    (h : feedOf (fieldAt d.args 0 1) = none ∨ fieldAt d.args 1 1 = 0 ∨ 16 < fieldAt d.args 1 1) (s : State) :
    ownSetLaneBFeed d s = refuse s .refusedRange := by
  unfold ownSetLaneBFeed
  split
  · next hfeed hbmax =>
    have hbmax' := (inRange_iff ..).1 hbmax
    simp only [hfeed, reduceCtorEq, false_or] at h
    omega
  all_goals rfl

/-- An edge that the mode does not select moves the held level and nothing else (R130). -/
theorem State.trigEdge_of_not_selected {s : State} {rising : Bool} (hedge : rising ≠ s.tcu.trigHigh)
    (hmode : s.prs.trigger.selects rising = false) :
    s.trigEdge rising = { s with tcu := { s.tcu with trigHigh := rising } } := by
  simp [State.trigEdge, hedge.symm, hmode]

theorem trigModeOf_of_mem {n : Nat} {m : TrigMode}
    (h : (n, m) ∈ [(0, TrigMode.off), (1, .rising), (2, .falling), (3, .both)]) : trigModeOf n = some m := by
  simp only [List.mem_cons, Prod.mk.injEq, List.not_mem_nil, or_false] at h
  rcases h with ⟨rfl, rfl⟩ | ⟨rfl, rfl⟩ | ⟨rfl, rfl⟩ | ⟨rfl, rfl⟩ <;> rfl

/-- A reply leaves the send lists alone (R180, R185). -/
theorem State.items_answer (s : State) (d : Directive) (rc : ReplyCode) (data : ReplyData) (l : LaneId) :
    ((s.answer d rc data).lane l).items = (s.lane l).items := by
  have hframe := fun (x : LaneSender) c r => (LaneSender.enqueue_frame x c r).1
  cases hcls : d.cls <;> cases l <;>
    simp [State.answer, State.popDirective, State.reply, State.report, State.countRefusal, SourceClass.lane, hcls,
      hframe]

/-- Settles O51. -/
theorem laneAndTriggerSettingsAreReplaced : Obligations.LaneAndTriggerSettingsAreReplaced := by
  refine ⟨fun s d rest hacc => ⟨fun hbad => ?_, ?_⟩, fun s d rest hacc => ⟨fun hbad => ?_, ?_⟩,
    fun s d rest hacc => ⟨fun hbad => ?_, ?_⟩⟩
  · exact State.next_of_refused hacc (ownSetLanes_of_none (laneRequest_eq_none hbad) _)
  · intro aF aP feed st hF hP hfeed hst hlo hhi
    have hrequest := laneRequest_eq_some hF hP hfeed hst hlo hhi
    refine ⟨fun hbusy hchange => State.next_of_refused hacc (ownSetLanes_of_change hrequest hbusy ?_), fun hsame => ?_⟩
    · exact hchange.imp_right (Or.imp_right Ne.symm)
    · have hsame' := hsame.imp_right fun ⟨h1, h2, h3⟩ => And.intro h1 (And.intro h2 h3.symm)
      rw [← if_congr (beq_iff_eq (a := st) (b := .f)) rfl rfl]
      exact State.next_of_taken hacc (ownSetLanes_of_same hrequest hsame')
  · exact State.next_of_refused hacc (ownSetLaneBFeed_of_bad hbad _)
  · intro feed hfeed hlo hhi
    exact ⟨_, State.next_of_taken hacc (ownSetLaneBFeed_of_some hfeed hlo hhi _), rfl, State.items_answer _ _ _ _ .b⟩
  · have hmode := (trigModeOf_eq_none_iff _).2 hbad
    exact State.next_of_refused hacc (by simp [ownSetTrigger, hmode])
  · intro m hm
    have howner : ownSetTrigger d (s.countTaken .setTrigger) =
        ⟨{ s.countTaken .setTrigger with prs := { s.prs with trigger := m } }, .done, .none⟩ := by
      simp only [ownSetTrigger, trigModeOf_of_mem hm]; rfl
    refine ⟨_, State.next_of_taken hacc howner, rfl, by simp, fun rising hedge hnot => ?_⟩
    have hselects : m.selects rising = false := by
      rcases hnot with rfl | ⟨rfl, rfl⟩ | ⟨rfl, rfl⟩ <;> rfl
    exact congrArg Host.Outcome.next (State.trigEdge_of_not_selected hedge (by simpa using hselects))

/-! ## LOAD LADDER (R8) -/

theorem neverDecreases_iff (steps : List Nat) : neverDecreases steps = true ↔ steps.Pairwise (· ≤ ·) := by
  rw [← List.isChain_iff_pairwise]
  match steps with
  | [] | [_] => simp [neverDecreases]
  | a :: b :: rest =>
    have ih := neverDecreases_iff (b :: rest)
    rw [← List.isChain_iff_pairwise] at ih
    simp [neverDecreases, ih]

theorem State.ladderFits_iff (s : State) (st : Stream) (steps : List Nat) :
    s.ladderFits st steps = true ↔ 2 ≤ steps.length ∧ steps.length ≤ 32 ∧ (∀ x ∈ steps, 1 ≤ x ∧ x ≤ 4095) ∧
      steps.Pairwise (· ≤ ·) ∧ ∀ p, (s.tables st).validAt s.ti.nextSource = some p → p.qhi < steps.length := by
  cases hp : (s.tables st).validAt s.ti.nextSource <;>
    simp [State.ladderFits, hp, neverDecreases_iff, and_assoc]

theorem State.tables_pendLadder (s : State) (st : Stream) (steps : List Nat) :
    (s.pendLadder st steps).tables st = { s.tables st with pendingLadder := some ⟨steps, s.ti.nextSource⟩ } := by
  cases st <;> rfl

theorem State.ctx_pendLadder (s : State) (st : Stream) (steps : List Nat) :
    (s.pendLadder st steps).ctx st = { s.ctx st with activate := true } := by
  cases st <;> rfl

theorem ownLoadLadder_eq {d : Directive} {st : Stream} (hst : streamOf (fieldAt d.args 0 1) = some st)
    {steps : List Nat} (hsteps : steps = ladderSteps d.args (fieldAt d.args 1 1)) (s : State) :
    ownLoadLadder d s = if s.ladderFits st steps = true then
        ⟨s.pendLadder st steps, .done, .loaded st s.ti.nextSource⟩
      else refuse s .refusedRange := by
  simp [ownLoadLadder, hst, hsteps]

/-- Settles O49. -/
theorem loadLadderBecomesPending : Obligations.LoadLadderBecomesPending := by
  intro s d rest st steps hacc hst hsteps
  have howner := ownLoadLadder_eq hst hsteps (s.countTaken .loadLadder)
  rw [State.ladderFits_countTaken] at howner
  rw [← s.ladderFits_iff st steps]
  refine ⟨fun hfits => ⟨State.next_of_taken hacc ?_, s.tables_pendLadder st steps, ?_⟩,
    fun hfits => State.next_of_refused hacc ?_⟩
  · rw [howner, if_pos hfits]; rfl
  · rw [State.ctx_pendLadder]
  · rw [howner, if_neg hfits]

/-! ## LOAD PROFILE (R2 to R4, R9, R11) -/

theorem ownLoadProfile_of_noStream {d : Directive} (h : 2 ≤ fieldAt d.args 0 1) (s : State) :
    ownLoadProfile d s = refuse s .refusedRange := by
  simp [ownLoadProfile, (streamOf_eq_none_iff _).2 h]

theorem ownLoadProfile_of_checkF_some {d : Directive} (hf : fieldAt d.args 0 1 = 0) {s : State} {rc : ReplyCode}
    (hcheck : s.checkF (fSettings d.args) = some rc) : ownLoadProfile d s = refuse s rc := by
  simp [ownLoadProfile, hf, streamOf, hcheck]

theorem ownLoadProfile_of_checkF_none {d : Directive} (hf : fieldAt d.args 0 1 = 0) {s : State}
    (hcheck : s.checkF (fSettings d.args) = none) :
    ownLoadProfile d s = s.loadF (fSettings d.args) (ceilingClamped d.args 8388608) := by
  simp [ownLoadProfile, hf, streamOf, hcheck]

theorem ownLoadProfile_of_checkP_none {d : Directive} (hp : fieldAt d.args 0 1 = 1) {s : State}
    (hcheck : s.checkP d.args = none) : ownLoadProfile d s = refuse s .refusedRange := by
  simp [ownLoadProfile, hp, streamOf, hcheck]

theorem ownLoadProfile_of_checkP_some {d : Directive} (hp : fieldAt d.args 0 1 = 1) {s : State} {x : Settings}
    (hcheck : s.checkP d.args = some x) : ownLoadProfile d s = s.loadP x (ceilingClamped d.args 2097152) := by
  simp [ownLoadProfile, hp, streamOf, hcheck]

/-- A load for stream F that leaves stream P alone (R2, R9). -/
theorem State.loadF_of_alone {s : State} {x : Settings} (h : s.rederiveP x = none) (clamped : Bool) :
    s.loadF x clamped = ⟨s.useSerial.pendProfile .f (x.record true s.prs.nextSerial),
      if x.clamped clamped then .doneClamped else .done, .loaded .f s.ti.nextSource⟩ := by
  simp [State.loadF, h]

/-- What a load for stream F makes of the part, whether it rederives the P record or not (R9, R11). -/
theorem State.loadF_effect (s : State) (x : Settings) (clamped : Bool) :
    ∃ (u : State) (rc : ReplyCode), s.loadF x clamped = ⟨u, rc, .loaded .f s.ti.nextSource⟩ ∧ rc.isDone = true ∧
      u.prs.f = { s.prs.f with pendingProfile := some ⟨x.record true s.prs.nextSerial, s.ti.nextSource⟩ } ∧
      u.prs.p.profile = s.prs.p.profile ∧ u.prs.p.ring = s.prs.p.ring ∧ u.prs.lanes = s.prs.lanes ∧
      u.scF = { s.scF with activate := true } ∧ u.ti = s.ti ∧ u.tc = s.tc ∧ u.dram = s.dram ∧
      (s.rederiveP x = none → u.prs.p = s.prs.p ∧ u.scP = s.scP ∧ rc ≠ .doneConflict) := by
  have hplain : ∀ b : Bool, (if b then ReplyCode.doneClamped else .done).isDone = true ∧
      (if b then ReplyCode.doneClamped else .done) ≠ .doneConflict := by decide
  cases h : s.rederiveP x with
  | none =>
    exact ⟨_, _, State.loadF_of_alone h clamped, (hplain _).1, rfl, rfl, rfl, rfl, rfl, rfl, rfl, rfl,
      fun _ => ⟨rfl, rfl, (hplain _).2⟩⟩
  | some p =>
    simp only [State.loadF, h]
    refine ⟨_, _, rfl, ?_, rfl, rfl, rfl, rfl, rfl, rfl, rfl, rfl, fun hnone => nomatch hnone⟩
    split
    · exact (hplain _).1
    · rfl

/-- Settles O48. -/
theorem loadProfileBecomesPending : Obligations.LoadProfileBecomesPending := by
  intro s d rest hacc
  refine ⟨fun hnone => State.next_of_refused hacc (ownLoadProfile_of_noStream hnone _),
    fun rc hf hcheck => State.next_of_refused hacc (ownLoadProfile_of_checkF_some hf hcheck), fun hf hcheck => ?_,
    fun hp hcheck => State.next_of_refused hacc (ownLoadProfile_of_checkP_none hp hcheck), fun x hp hcheck => ?_⟩
  · obtain ⟨u, rc, hload, hdone, htables, hprofile, hring, hlanes, hscF, hti, htc, hdram, halone⟩ :=
      (s.countTaken .loadProfile).loadF_effect (fSettings d.args) (ceilingClamped d.args 8388608)
    have howner := (ownLoadProfile_of_checkF_none hf ((s.checkF_countTaken ..).trans hcheck)).trans hload
    refine ⟨u, rc, State.next_of_taken hacc howner, hdone, ?_, ?_, hprofile, ?_, hring, hlanes, hscF, hti, htc, hdram,
      halone⟩ <;> rw [htables] <;> rfl
  · refine ⟨_, State.next_of_taken hacc (ownLoadProfile_of_checkP_some hp ((s.checkP_countTaken ..).trans hcheck)), ?_⟩
    split
    · exact .inr rfl
    · exact .inl rfl

/-! ## The checks of an F profile (R2) -/

theorem Settings.changes_iff (x : Settings) (p : ProfileRec) :
    x.changes p = true ↔ x.width ≠ p.width ∨ x.height ≠ p.height ∨ x.rateCode ≠ p.rateCode := by
  simp [Settings.changes, or_assoc]

theorem Settings.windowFits_iff (x : Settings) (steps : List Nat) :
    x.windowFits steps = true ↔ x.qlo ≤ x.qstart ∧ x.qstart ≤ x.qhi ∧ x.qhi < steps.length := by
  simp [Settings.windowFits, and_assoc]

theorem holdsTwo_iff (r : Ring) (rows ceilingC : Nat) :
    holdsTwo r rows ceilingC = true ↔ 2 * ((64 + 4 * rows + ceilingC + 63) / 64 * 64) ≤ r.pages * 65536 := by
  simp only [holdsTwo, decide_eq_true_eq]
  rfl

/-- A load is busy when it would change the geometry or the rate under a take that is not CLOSED (R2). -/
def State.fBusy (s : State) (x : Settings) : Prop :=
  s.tkc.busy = true ∧ ∃ p, s.prs.f.profileAt s.ti.nextSource = some p ∧
    (x.width ≠ p.width ∨ x.height ≠ p.height ∨ x.rateCode ≠ p.rateCode)

/-- The range checks of R2 together. -/
def State.fFits (s : State) (x : Settings) : Prop :=
  x.width % 64 = 0 ∧ 1280 ≤ x.width ∧ x.width ≤ 4096 ∧ x.height % 8 = 0 ∧ 720 ≤ x.height ∧ x.height ≤ 2176 ∧
  x.rateCode ≤ 8 ∧ 10000 ≤ x.rate ∧ x.rate ≤ 800000 ∧ 1 ≤ x.stride ∧ x.stride ≤ 4 ∧
  (∃ l, s.prs.f.ladderAt s.ti.nextSource = some l ∧ x.qlo ≤ x.qstart ∧ x.qstart ≤ x.qhi ∧ x.qhi < l.length) ∧
  16 * x.tiles ≤ x.ceiling ∧
  ∃ r, s.prs.f.ring = some r ∧ 2 * ((64 + 4 * x.rows + x.ceiling + 63) / 64 * 64) ≤ r.pages * 65536

/-- A busy load is refused as BUSY before any other check (R2). -/
theorem State.checkF_of_busy {s : State} {x : Settings} (h : s.fBusy x) : s.checkF x = some .refusedBusy := by
  obtain ⟨hbusy, p, hp, hchange⟩ := h
  simp [State.checkF, hbusy, hp, (x.changes_iff p).2 hchange]

/-- A chain of checks that is refused exactly when `F` fails. -/
theorem ite_refused_cases {C F : Prop} [Decidable C] {a : ReplyCode} (h : ¬ C ↔ F) :
    ((if C then some a else none) = none ∧ F) ∨ ((if C then some a else none) = some a ∧ ¬ F) := by
  by_cases hC : C
  · exact .inr ⟨if_pos hC, fun hF => h.2 hF hC⟩
  · exact .inl ⟨if_neg hC, h.1 hC⟩

/-- A load that is not busy passes exactly when every range check does, and is refused as RANGE otherwise (R2). -/
theorem State.checkF_of_not_busy {s : State} {x : Settings} (h : ¬ s.fBusy x) :
    (s.checkF x = none ∧ s.fFits x) ∨ (s.checkF x = some .refusedRange ∧ ¬ s.fFits x) := by
  unfold State.checkF
  rw [if_neg]
  case hnc =>
    rw [Bool.and_eq_true]
    rintro ⟨hbusy, hchange⟩
    cases hp : s.prs.f.profileAt s.ti.nextSource with
    | none => simp [hp] at hchange
    | some p => exact h ⟨hbusy, p, hp, (x.changes_iff p).1 (by simpa [hp] using hchange)⟩
  cases hring : s.prs.f.ring with
  | none => exact .inr ⟨rfl, by simp [State.fFits, hring]⟩
  | some ring =>
    cases hladder : s.prs.f.ladderAt s.ti.nextSource with
    | none => exact .inr ⟨by simp, by simp [State.fFits, hladder]⟩
    | some l =>
      simp only [← ite_or]
      refine ite_refused_cases ?_
      simp only [State.fFits, hring, hladder, Option.some.injEq, exists_eq_left', ← holdsTwo_iff,
        ← Settings.windowFits_iff, not_or, Bool.or_eq_true, Bool.not_eq_true', Bool.not_eq_false, decide_eq_true_eq, rateFraction_isNone,
        inRange_iff, not_lt, ne_eq, not_not, and_assoc]

theorem State.checkF_eq_none_iff (s : State) (x : Settings) : s.checkF x = none ↔ ¬ s.fBusy x ∧ s.fFits x := by
  by_cases hbusy : s.fBusy x
  · simp [State.checkF_of_busy hbusy, hbusy]
  · rcases State.checkF_of_not_busy hbusy with ⟨hcheck, hfits⟩ | ⟨hcheck, hfits⟩ <;> simp [hcheck, hbusy, hfits]

theorem State.checkF_eq_busy_iff (s : State) (x : Settings) : s.checkF x = some .refusedBusy ↔ s.fBusy x := by
  by_cases hbusy : s.fBusy x
  · simp [State.checkF_of_busy hbusy, hbusy]
  · rcases State.checkF_of_not_busy hbusy with ⟨hcheck, -⟩ | ⟨hcheck, -⟩ <;> simp [hcheck, hbusy]

theorem State.checkF_cases (s : State) (x : Settings) :
    s.checkF x = none ∨ s.checkF x = some .refusedBusy ∨ s.checkF x = some .refusedRange := by
  by_cases hbusy : s.fBusy x
  · exact .inr (.inl (State.checkF_of_busy hbusy))
  · rcases State.checkF_of_not_busy hbusy with ⟨hcheck, -⟩ | ⟨hcheck, -⟩
    · exact .inl hcheck
    · exact .inr (.inr hcheck)

/-! ## The derived quantities (R5 to R7) -/

/-- The clamps of T put it between 16 n and C, where 16 n is at most C (R6). -/
theorem clampTarget_bounds {rows ceilingC : Nat} (raw : Nat) (h : 16 * rows ≤ ceilingC) :
    16 * rows ≤ clampTarget raw ceilingC rows ∧ clampTarget raw ceilingC rows ≤ ceilingC := by
  simp only [clampTarget]
  split_ifs <;> omega

theorem reservationBytes_bounds (rows ceilingC : Nat) :
    reservationBytes rows ceilingC % 64 = 0 ∧ 64 + 4 * rows + ceilingC ≤ reservationBytes rows ceilingC ∧
      reservationBytes rows ceilingC < 64 + 4 * rows + ceilingC + 64 := by
  unfold reservationBytes
  omega

/-- After the last row the expected byte count is the picture target (R6). -/
theorem ProfileRec.expected_last {p : ProfileRec} (h : 0 < p.rows) : p.expected (p.rows - 1) = p.target := by
  rw [ProfileRec.expected, Nat.sub_add_cancel h, Nat.mul_div_cancel _ h]

theorem ProfileRec.expected_mono (p : ProfileRec) (i : Nat) : p.expected i ≤ p.expected (i + 1) :=
  Nat.div_le_div_right (Nat.mul_le_mul_left _ (by omega))

/-- The geometry of an F picture that passes: whole tiles across and down, and at least one of each (R2, R5). -/
theorem fSettings_geometry {s : State} {args : List Byte} (h : s.fFits (fSettings args)) :
    (fSettings args).across = (fSettings args).width / 64 ∧ (fSettings args).rows = (fSettings args).height / 8 ∧
      (fSettings args).across * 64 = (fSettings args).width ∧ (fSettings args).rows * 8 = (fSettings args).height ∧
      0 < (fSettings args).across ∧ 0 < (fSettings args).rows := by
  obtain ⟨hwidth, hwlo, -, hheight, hhlo, -⟩ := h
  have hacross : (fSettings args).across = (fSettings args).width / 64 := by
    rw [Settings.across, show (fSettings args).scale = 1 from rfl, Nat.div_one]
  have hrows : (fSettings args).rows = (fSettings args).height / 8 := by
    rw [Settings.rows, show (fSettings args).scale = 1 from rfl, Nat.div_one]
    omega
  exact ⟨hacross, hrows, by omega, by omega, by omega, by omega⟩

/-- A picture has at least as many tiles as tile rows, so a ceiling that covers its tiles covers its rows (R2). -/
theorem fSettings_rows_le_ceiling {s : State} {args : List Byte} (h : s.fFits (fSettings args)) :
    16 * (fSettings args).rows ≤ (fSettings args).ceiling := by
  obtain ⟨-, -, -, -, hacross, -⟩ := fSettings_geometry h
  obtain ⟨-, -, -, -, -, -, -, -, -, -, -, -, hceiling, -⟩ := h
  have htiles : (fSettings args).rows ≤ (fSettings args).tiles := Nat.le_mul_of_pos_left _ hacross
  omega

/-- Settles O47. -/
theorem fProfileIsCheckedAndDerived : Obligations.FProfileIsCheckedAndDerived := by
  refine ⟨fun s x => ⟨s.checkF_eq_busy_iff x, s.checkF_eq_none_iff x, s.checkF_cases x⟩, ?_⟩
  rintro s args r hcheck rfl
  obtain ⟨-, hfits⟩ := (s.checkF_eq_none_iff _).1 hcheck
  obtain ⟨hacross, hrows, hwidth, hheight, -, hpos⟩ := fSettings_geometry hfits
  obtain ⟨htargetlo, htargethi⟩ := clampTarget_bounds (fSettings args).rawTarget (fSettings_rows_le_ceiling hfits)
  obtain ⟨hmod, hlo, hhi⟩ := reservationBytes_bounds (fSettings args).rows (fSettings args).ceiling
  have hw : ((fSettings args).record true 0).width = (fSettings args).width := Nat.div_one _
  have hh : ((fSettings args).record true 0).height = (fSettings args).height := Nat.div_one _
  refine ⟨?_, ?_, ?_, ?_, hw, hh, htargetlo, htargethi, rfl, ProfileRec.expected_last hpos,
    fun i _ => ProfileRec.expected_mono _ i, hmod, hlo, hhi, rfl⟩
  · rw [hw]; exact hwidth
  · rw [hh]; exact hheight
  · rw [hw, hh, ← hacross, ← hrows]; rfl
  · have hpad : ((fSettings args).record true 0).padLines =
        8 * (fSettings args).rows - ((fSettings args).record true 0).height := rfl
    rw [hpad, hh]
    omega

end Sys2Proof.Machine
end

section
/-! How far an operation can take the queues and counts of the part (R20, R25, R30, R42, R60, R123, R135, R138, R176,
R183, R185): three relations between a state and a later one, and a rule for each update of the state's parts. -/

namespace Sys2Proof.Machine

/-! ## Lane senders -/

/-- From `x` to `y` a lane sender stays within its bounds, if it was within them. -/
def LaneSender.Keeps (capacity : Nat) (x y : LaneSender) : Prop :=
  (x.queue.length ≤ capacity → y.queue.length ≤ capacity) ∧ (x.countsBounded → y.countsBounded)

theorem LaneSender.Keeps.refl (c : Nat) (x : LaneSender) : x.Keeps c x := ⟨id, id⟩

theorem LaneSender.Keeps.trans {c : Nat} {x y z : LaneSender} (h : x.Keeps c y) (g : y.Keeps c z) : x.Keeps c z :=
  ⟨g.1 ∘ h.1, g.2 ∘ h.2⟩

theorem add16_le (c k : Nat) : add16 c k ≤ 65535 := Nat.min_le_right ..

theorem LaneSender.startReport_keeps (c : Nat) (x : LaneSender) : x.Keeps c x.startReport := by
  unfold LaneSender.startReport
  split
  · next hq =>
    refine ⟨fun h => ?_, id⟩
    rw [hq] at h
    exact (Nat.le_succ _).trans h
  · exact .refl c x

theorem LaneSender.enqueue_keeps (c : Nat) (x : LaneSender) (r : Report) : x.Keeps c (x.enqueue c r) := by
  refine ⟨x.enqueue_length c r, ?_⟩
  rintro ⟨hcredit, hstall, -, hdrop, hlatch⟩
  unfold LaneSender.enqueue
  split
  · exact (LaneSender.startReport_keeps c _).2 ⟨hcredit, hstall, Nat.zero_le _, hdrop, hlatch⟩
  · exact ⟨hcredit, hstall, add16_le .., hdrop, hlatch⟩

theorem LaneSender.sendSegment_keeps (c : Nat) (x : LaneSender) (l : LaneId) (g : Segment) :
    x.Keeps c (x.sendSegment l g) := by
  refine ⟨id, ?_⟩
  rintro ⟨hcredit, hstall, hlost, hdrop, hlatch⟩
  refine ⟨(Nat.sub_le ..).trans hcredit, hstall, hlost, ?_, hlatch⟩
  simp only [LaneSender.sendSegment]
  split
  · exact Nat.zero_le _
  · exact hdrop

/-- A count of drops that stops at 65,535 (R168, R169), with other units in the list. -/
theorem LaneSender.countDrops_keeps (c : Nat) (x : LaneSender) (items : List Item) (u : Option InProgress) (k : Nat)
    (n : LaneCounters) :
    x.Keeps c { x with items := items, inProgress := u, dropPending := add16 x.dropPending k, counters := n } :=
  ⟨id, fun ⟨hcredit, hstall, hlost, _, hlatch⟩ => ⟨hcredit, hstall, hlost, add16_le .., hlatch⟩⟩

theorem LaneSender.addCredit_keeps (c : Nat) (x : LaneSender) : x.Keeps c x.addCredit := by
  unfold LaneSender.addCredit
  refine ⟨fun h => by split <;> exact h, ?_⟩
  rintro ⟨hcredit, hstall, hlost, hdrop, hlatch⟩
  split
  · exact ⟨hcredit, hstall, hlost, hdrop, hlatch⟩
  · exact ⟨by simp only; omega, hstall, hlost, hdrop, hlatch⟩

theorem LaneSender.latchStall_keeps (c : Nat) (x : LaneSender) (n : LaneCounters) :
    x.Keeps c { x with stallLatch := true, counters := n } :=
  ⟨id, fun ⟨hcredit, hstall, hlost, hdrop, _⟩ => ⟨hcredit, hstall, hlost, hdrop, nofun⟩⟩

theorem LaneSender.clearStall_keeps (c : Nat) (x : LaneSender) :
    x.Keeps c { x with stall := 0, stallLatch := false } :=
  ⟨id, fun ⟨hcredit, _, hlost, hdrop, _⟩ => ⟨hcredit, Nat.zero_le _, hlost, hdrop, fun _ => Nat.zero_lt_succ _⟩⟩

/-- A waiting lane has a unit at its head, so that its stall is due at 32 with the latch clear (R171). -/
theorem LaneSender.stallDue_of_waiting {x : LaneSender} (hw : x.waiting = true) (hstall : 32 ≤ x.stall)
    (hlatch : x.stallLatch = false) : x.stallDue ≠ none := by
  unfold LaneSender.waiting at hw
  unfold LaneSender.stallDue
  cases hitems : x.items with
  | nil => simp [hitems] at hw
  | cons i rest =>
    cases i with
    | unit st source => simp [hstall, hlatch]
    | marker m => simp [hitems] at hw

/-- An open counted while a lane waits leaves the stall within its bounds when it brings about no report (R171). -/
theorem LaneSender.noteOpen_keeps (c : Nat) {x : LaneSender} (h : x.noteOpen.stallDue = none) :
    x.Keeps c x.noteOpen := by
  unfold LaneSender.noteOpen at h ⊢
  split
  · next hw =>
    rw [if_pos hw] at h
    refine ⟨id, fun ⟨hcredit, _, hlost, hdrop, _⟩ => ⟨hcredit, add16_le .., hlost, hdrop, fun hlatch => ?_⟩⟩
    by_contra hlt
    exact LaneSender.stallDue_of_waiting (x := { x with stall := add16 x.stall 1 }) hw (Nat.le_of_not_lt hlt) hlatch h
  · exact .refl c x

/-- With the latch set the stall may go on to 65,535 (R171). -/
theorem LaneSender.noteOpen_latched_keeps (c : Nat) (x : LaneSender) (n : LaneCounters) :
    x.Keeps c { x.noteOpen with stallLatch := true, counters := n } := by
  unfold LaneSender.noteOpen
  split
  · exact ⟨id, fun ⟨hcredit, _, hlost, hdrop, _⟩ => ⟨hcredit, add16_le .., hlost, hdrop, nofun⟩⟩
  · exact LaneSender.latchStall_keeps ..

/-! ## The blocks -/

/-- The lists of the Directive Unit within their bounds (R176, R183). -/
def Du.listsBounded (d : Du) : Prop := d.fifo.length ≤ 8 ∧ d.waitF.length ≤ 8 ∧ d.waitP.length ≤ 8

/-- The counts of the REF watch within their bounds (R123, log 2). -/
def Tcu.watchBounded (t : Tcu) : Prop :=
  t.opensSincePulse ≤ 8 ∧ (t.refPresent = true → t.opensSincePulse < 8) ∧ t.opensSinceLoss ≤ 65535

/-- Pmax and the next take number within their bounds (R135, R138). -/
def Tkc.numbersBounded (k : Tkc) : Prop := k.pmax ≤ 1024 ∧ 1 ≤ k.nextTake ∧ k.nextTake ≤ 65535

/-- The queues of `queuesBounded` other than the Tile FIFO. -/
def State.listsBounded (s : State) : Prop :=
  s.ti.table.length ≤ 8 ∧ s.du.listsBounded ∧ s.lsA.queue.length ≤ 32 ∧ s.lsB.queue.length ≤ 8

theorem State.queuesBounded_iff (s : State) :
    s.queuesBounded ↔
      s.ti.fifo.length ≤ 256 ∧ (s.ti.status = .opened → s.ti.fifo.length ≤ 254) ∧ s.listsBounded := by
  simp only [State.queuesBounded, State.listsBounded, Du.listsBounded, and_assoc]

theorem State.countsBounded_iff (s : State) :
    s.countsBounded ↔ s.ti.fails ≤ 2 ∧ s.tc.share ≤ 16 ∧ s.scP.gap ≤ 65535 ∧ s.tcu.watchBounded ∧
      s.tkc.numbersBounded ∧ s.lsA.countsBounded ∧ s.lsB.countsBounded := by
  simp only [State.countsBounded, Tcu.watchBounded, Tkc.numbersBounded, and_assoc]

/-- From `s` to `t` each queue and count but the Tile FIFO stays within its bound, if it was within it. -/
structure State.Kept (s t : State) : Prop where
  table : s.ti.table.length ≤ 8 → t.ti.table.length ≤ 8
  fails : s.ti.fails ≤ 2 → t.ti.fails ≤ 2
  du : s.du.listsBounded → t.du.listsBounded
  share : s.tc.share ≤ 16 → t.tc.share ≤ 16
  gap : s.scP.gap ≤ 65535 → t.scP.gap ≤ 65535
  watch : s.tcu.watchBounded → t.tcu.watchBounded
  numbers : s.tkc.numbersBounded → t.tkc.numbersBounded
  lsA : s.lsA.Keeps 32 t.lsA
  lsB : s.lsB.Keeps 8 t.lsB

/-- From `s` to `t` the Tile FIFO moreover grows by at most `k` entries, and no picture becomes OPEN. -/
structure State.Within (k : Nat) (s t : State) : Prop extends State.Kept s t where
  opened : t.ti.status = .opened → s.ti.status = .opened
  fifo : t.ti.fifo.length ≤ s.ti.fifo.length + k

/-- From `s` to `t` no picture open has reached the FSC and the TKC either (R29). -/
structure State.Confined (k : Nat) (s t : State) : Prop extends State.Within k s t where
  newest : t.fsc.newest = s.fsc.newest
  lastOpen : t.tkc.lastOpen = s.tkc.lastOpen

theorem State.Kept.refl (s : State) : s.Kept s :=
  ⟨id, id, id, id, id, id, id, .refl .., .refl ..⟩

theorem State.Kept.trans {s t u : State} (h : s.Kept t) (g : t.Kept u) : s.Kept u :=
  ⟨g.table ∘ h.table, g.fails ∘ h.fails, g.du ∘ h.du, g.share ∘ h.share, g.gap ∘ h.gap, g.watch ∘ h.watch,
    g.numbers ∘ h.numbers, h.lsA.trans g.lsA, h.lsB.trans g.lsB⟩

theorem State.Kept.lists {s t : State} (h : s.Kept t) (hs : s.listsBounded) : t.listsBounded := by
  obtain ⟨htable, hdu, ha, hb⟩ := hs
  exact ⟨h.table htable, h.du hdu, h.lsA.1 ha, h.lsB.1 hb⟩

theorem State.Kept.counts {s t : State} (h : s.Kept t) (hs : s.countsBounded) : t.countsBounded := by
  obtain ⟨hfails, hshare, hgap, hwatch, hnumbers, ha, hb⟩ := s.countsBounded_iff.1 hs
  exact t.countsBounded_iff.2 ⟨h.fails hfails, h.share hshare, h.gap hgap, h.watch hwatch, h.numbers hnumbers,
    h.lsA.2 ha, h.lsB.2 hb⟩

theorem State.Within.refl (s : State) : s.Within 0 s := ⟨.refl s, id, Nat.le_refl _⟩

theorem State.Within.trans {s t u : State} {j k : Nat} (h : s.Within j t) (g : t.Within k u) : s.Within (j + k) u :=
  ⟨h.toKept.trans g.toKept, h.opened ∘ g.opened, by have := h.fifo; have := g.fifo; omega⟩

theorem State.Confined.refl (s : State) : s.Confined 0 s := ⟨.refl s, rfl, rfl⟩

theorem State.Confined.trans {s t u : State} {j k : Nat} (h : s.Confined j t) (g : t.Confined k u) :
    s.Confined (j + k) u :=
  ⟨h.toWithin.trans g.toWithin, g.newest.trans h.newest, g.lastOpen.trans h.lastOpen⟩

/-- With room for what is appended the Tile FIFO stays within its bounds too. -/
theorem State.Within.queues {s t : State} {k : Nat} (h : s.Within k t) (hs : s.queuesBounded)
    (hroom : s.ti.fifo.length + k ≤ 256) (hopened : t.ti.status = .opened → t.ti.fifo.length ≤ 254) :
    t.queuesBounded := by
  obtain ⟨-, -, hlists⟩ := s.queuesBounded_iff.1 hs
  exact t.queuesBounded_iff.2 ⟨h.fifo.trans hroom, hopened, h.lists hlists⟩

/-- What appends nothing to the Tile FIFO keeps every queue within its bound. -/
theorem State.Within.queues_of_none {s t : State} (h : s.Within 0 t) (hs : s.queuesBounded) : t.queuesBounded := by
  obtain ⟨hfifo, hopened, -⟩ := s.queuesBounded_iff.1 hs
  exact h.queues hs hfifo fun ho => h.fifo.trans (hopened (h.opened ho))

/-! ## Updates of one block

Each rule asks for what the bounds read of the block it updates. Where an update leaves that alone, the condition is
closed by a tactic block, which Lean runs once the updated block is known. -/

namespace State.Confined

variable {k : Nat} {s t : State}

theorem withTi (h : s.Confined k t) {x : Ti}
    (hx : x.status = t.ti.status ∧ x.fifo = t.ti.fifo ∧ x.table = t.ti.table ∧ x.fails = t.ti.fails) :
    s.Confined k { t with ti := x } := by
  obtain ⟨hstatus, hfifo, htable, hfails⟩ := hx
  exact { h with
    table := htable ▸ h.table
    fails := hfails ▸ h.fails
    opened := hstatus ▸ h.opened
    fifo := hfifo ▸ h.fifo }

theorem withDu (h : s.Confined k t) {x : Du} (hx : t.du.listsBounded → x.listsBounded) :
    s.Confined k { t with du := x } := { h with du := hx ∘ h.du }

theorem withPrs (h : s.Confined k t) (x : Prs) : s.Confined k { t with prs := x } := { h with }

theorem withPs (h : s.Confined k t) (x : Ps) : s.Confined k { t with ps := x } := { h with }

theorem withTc (h : s.Confined k t) {x : Tc} (hx : t.tc.share ≤ 16 → x.share ≤ 16) :
    s.Confined k { t with tc := x } := { h with share := hx ∘ h.share }

theorem withScF (h : s.Confined k t) (x : Ctx) : s.Confined k { t with scF := x } := { h with }

theorem withScP (h : s.Confined k t) {x : Ctx} (hx : t.scP.gap ≤ 65535 → x.gap ≤ 65535) :
    s.Confined k { t with scP := x } := { h with gap := hx ∘ h.gap }

theorem withFsc (h : s.Confined k t) {x : Fsc} (hx : x.newest = t.fsc.newest) :
    s.Confined k { t with fsc := x } := { h with newest := hx.trans h.newest }

theorem withTcu (h : s.Confined k t) {x : Tcu} (hx : t.tcu.watchBounded → x.watchBounded) :
    s.Confined k { t with tcu := x } := { h with watch := hx ∘ h.watch }

theorem withTkc (h : s.Confined k t) {x : Tkc} (hlast : x.lastOpen = t.tkc.lastOpen)
    (hx : t.tkc.numbersBounded → x.numbersBounded) : s.Confined k { t with tkc := x } :=
  { h with numbers := hx ∘ h.numbers, lastOpen := hlast.trans h.lastOpen }

/-- The DRAM, its errors and the model's counter are in none of the bounds. -/
theorem withStore (h : s.Confined k t) (m : List Host.Cell) (w : List BadWord) (n : Nat) :
    s.Confined k { t with dram := m, wordErrors := w, freeTick := n } := { h with }

/-! ## Accessors and setters -/

theorem setTables (h : s.Confined k t) (st : Stream) (x : StreamTables) : s.Confined k (t.setTables st x) := by
  cases st <;> exact h.withPrs _

theorem setCtx (h : s.Confined k t) (st : Stream) {c : Ctx}
    (hc : (t.ctx st).gap ≤ 65535 → c.gap ≤ 65535) : s.Confined k (t.setCtx st c) := by
  cases st
  · exact h.withScF c
  · exact h.withScP hc

theorem setWs (h : s.Confined k t) (st : Stream) (w : WorkingSet) : s.Confined k (t.setWs st w) := by
  unfold State.setWs
  split
  · exact h.withTc (by exact id)
  · exact h.setCtx st (by exact id)

theorem setRingState (h : s.Confined k t) (st : Stream) (r : RingState) : s.Confined k (t.setRingState st r) := by
  cases st <;> exact h.withFsc (by rfl)

theorem setHold (h : s.Confined k t) (l : LaneId) (x : List Item) : s.Confined k (t.setHold l x) := by
  cases l <;> exact h.withTkc (by rfl) (by exact id)

theorem setLane (h : s.Confined k t) {l : LaneId} {x : LaneSender}
    (hx : (t.lane l).Keeps (reportCapacity l) x) : s.Confined k (t.setLane l x) := by
  cases l
  · exact { h with lsA := h.lsA.trans hx }
  · exact { h with lsB := h.lsB.trans hx }

theorem editRecord (h : s.Confined k t) (source : Nat) (f : PicRecord → PicRecord) :
    s.Confined k (t.editRecord source f) :=
  { h with table := fun b => by simpa [State.editRecord, modifyRecord] using h.table b }

theorem editEntry (h : s.Confined k t) (st : Stream) (source : Nat) (f : DirEntry → DirEntry) :
    s.Confined k (t.editEntry st source f) := h.setRingState ..

theorem editTake (h : s.Confined k t) (n : Nat) (f : TakeRec → TakeRec) : s.Confined k (t.editTake n f) :=
  h.withTkc (by rfl) (by exact id)

theorem editFifo (h : s.Confined k t) {f : List FifoEntry → List FifoEntry}
    (hf : (f t.ti.fifo).length ≤ t.ti.fifo.length) : s.Confined k (t.editFifo f) := { h with fifo := hf.trans h.fifo }

theorem countTi (h : s.Confined k t) (f : TiCounters → TiCounters) : s.Confined k (t.countTi f) := h.withTi (by simp)

/-! ## Folds -/

theorem foldl {α : Type} {f : State → α → State} (hf : ∀ (t : State) a, t.Confined 0 (f t a)) (l : List α)
    (h : s.Confined k t) : s.Confined k (l.foldl f t) := by
  induction l generalizing t with
  | nil => exact h
  | cons a l ih => exact ih (h.trans (hf t a))

/-! ## Reports, segment reads and releases -/

theorem report (h : s.Confined k t) (l : LaneId) (r : Report) : s.Confined k (t.report l r) :=
  h.setLane (LaneSender.enqueue_keeps ..)

theorem notify (h : s.Confined k t) (n : Notice) : s.Confined k (t.notify n) := h.report ..

theorem reply (h : s.Confined k t) (cls : SourceClass) (code tag : Byte) (rc : ReplyCode) (data : ReplyData) :
    s.Confined k (t.reply cls code tag rc data) := h.report ..

theorem countRead (h : s.Confined k t) (r : Ring) (e : DirEntry) (i : Nat) : s.Confined k (t.countRead r e i) := by
  exact { h with }

theorem raiseFault (h : s.Confined k t) (l : LaneId) (st : Stream) (x : FaultRecord) :
    s.Confined k (t.raiseFault l st x) := ((h.editEntry ..).withFsc (by rfl)).notify _

theorem ordinaryRelease (h : s.Confined k t) (st : Stream) : s.Confined k (t.ordinaryRelease st) := by
  simp only [State.ordinaryRelease]
  split
  · exact h
  · exact h.setRingState ..

theorem discardUnit (h : s.Confined k t) (st : Stream) : s.Confined k (t.discardUnit st) := by
  simp only [State.discardUnit]
  split
  · exact h
  · exact h.setRingState ..

/-! ## Lane senders at work (chapter 9) -/

theorem startSegment (h : s.Confined k t) (l : LaneId) (st : Stream) (source : Nat) :
    s.Confined k (t.startSegment l st source) := by
  unfold State.startSegment
  split
  · have hread : ∀ e r i,
        s.Confined k ((t.setLane l ((t.lane l).sendSegment l (t.segmentOf l st r e i))).countRead r e i) :=
      fun e r i => (h.setLane (LaneSender.sendSegment_keeps ..)).countRead ..
    dsimp only
    split
    · split
      · exact hread ..
      · exact (hread ..).raiseFault ..
    · exact hread ..
  · exact h

theorem choose (h : s.Confined k t) (l : LaneId) : s.Confined k (t.choose l) := by
  unfold State.choose
  split
  · exact h
  · split
    · exact h.setLane (LaneSender.startReport_keeps ..)
    · split
      · exact h
      · exact h.setLane (by exact ⟨id, id⟩)
      · split
        · exact h
        · exact h.startSegment ..

theorem chooseIfHeadChanged (h : s.Confined k t) (l : LaneId) (before : Option Item) :
    s.Confined k (t.chooseIfHeadChanged l before) := by
  unfold State.chooseIfHeadChanged
  split
  · exact h
  · exact h.choose l

theorem clearNeeds (h : s.Confined k t) (l : LaneId) (items : List Item) : s.Confined k (t.clearNeeds l items) := by
  induction items generalizing t with
  | nil => exact h
  | cons i items ih =>
    cases i with
    | unit st source => exact ih (h.editEntry ..)
    | marker m => exact ih h

theorem backlogTest (h : s.Confined k t) : s.Confined k t.backlogTest := by
  simp only [State.backlogTest]
  split
  · exact h
  · exact State.Confined.chooseIfHeadChanged
      ((h.clearNeeds .b _).setLane (l := .b) (LaneSender.countDrops_keeps ..)) ..

theorem pushItem (h : s.Confined k t) (l : LaneId) (i : Item) : s.Confined k (t.pushItem l i) := by
  simp only [State.pushItem]
  split
  · exact (h.setLane (by exact ⟨id, id⟩)).choose l
  · exact h.setLane (by exact ⟨id, id⟩)

theorem pushUnit (h : s.Confined k t) (l : LaneId) (st : Stream) (source : Nat) :
    s.Confined k (t.pushUnit l st source) := by
  unfold State.pushUnit
  split
  · exact h.pushItem ..
  · split
    · exact ((h.setLane (by exact ⟨id, id⟩)).pushItem ..).backlogTest
    · exact h.clearNeeds ..

theorem pushMarker (h : s.Confined k t) (l : LaneId) (m : Marker) : s.Confined k (t.pushMarker l m) := by
  unfold State.pushMarker
  split <;> split
  · exact (h.setLane (by exact ⟨id, id⟩)).pushItem ..
  · exact h.setLane (by exact ⟨id, id⟩)
  · exact h.setLane (by exact ⟨id, id⟩)
  · exact (h.setLane (by exact ⟨id, id⟩)).pushItem ..

theorem push (h : s.Confined k t) (l : LaneId) (i : Item) : s.Confined k (t.push l i) := by
  cases i with
  | unit st source => exact h.pushUnit ..
  | marker m => exact h.pushMarker ..

theorem pushAll (h : s.Confined k t) (l : LaneId) (items : List Item) : s.Confined k (t.pushAll l items) := by
  induction items generalizing t with
  | nil => exact h
  | cons i items ih => exact ih (h.push l i)

theorem ringDropB (h : s.Confined k t) (st : Stream) (source : Nat) : s.Confined k (t.ringDropB st source) :=
  State.Confined.chooseIfHeadChanged (h.setLane (l := .b) (LaneSender.countDrops_keeps ..)) ..

theorem takeStall (h : s.Confined k t) (l : LaneId) : s.Confined k (t.takeStall l) := by
  unfold State.takeStall
  split
  · exact h
  · exact State.Confined.notify (h.setLane (LaneSender.latchStall_keeps ..)) _

/-- The open that brings an unreported stall to 32 reports it (R171). -/
theorem countOpen (h : s.Confined k t) (l : LaneId) : s.Confined k (t.countOpen l) := by
  unfold State.countOpen State.takeStall
  rw [State.lane_setLane, State.setLane_setLane]
  split
  · next hdue => exact h.setLane (LaneSender.noteOpen_keeps _ hdue)
  · exact State.Confined.notify (h.setLane (LaneSender.noteOpen_latched_keeps ..)) _

theorem resume (h : s.Confined k t) (l : LaneId) : s.Confined k (t.resume l) := by
  have hlane : s.Confined k (t.setLane l { t.lane l with stall := 0, stallLatch := false }) :=
    h.setLane (LaneSender.clearStall_keeps ..)
  simp only [State.resume]
  split
  · exact hlane.notify _
  · exact hlane

theorem creditPulse (h : s.Confined k t) (l : LaneId) : s.Confined k (t.creditPulse l) := by
  have hcredit := ((h.takeStall l).resume l).setLane (l := l) (LaneSender.addCredit_keeps _ _)
  simp only [State.creditPulse, State.chooseOnCredit]
  split
  · exact hcredit.choose l
  · exact hcredit
  · exact hcredit

theorem unitSent (h : s.Confined k t) (l : LaneId) (st : Stream) (source : Nat) :
    s.Confined k (t.unitSent l st source) := (h.editEntry ..).setLane (by exact ⟨id, id⟩)

theorem packetEnded (h : s.Confined k t) (l : LaneId) (x : Packet) : s.Confined k (t.packetEnded l x) := by
  cases x with
  | segment g =>
    simp only [State.packetEnded, State.segmentSent]
    split
    · exact (h.unitSent ..).ordinaryRelease _
    · exact h.ordinaryRelease _
  | marker m => exact h.setLane (by exact ⟨id, id⟩)
  | report r => exact h

theorem packetSent (h : s.Confined k t) (l : LaneId) : s.Confined k (t.packetSent l) := by
  unfold State.packetSent
  split
  · exact h
  · refine State.Confined.choose ?_ l
    unfold State.finishPacket
    split
    · exact h
    · exact (h.packetEnded ..).setLane (by exact ⟨id, id⟩)

/-! ## Directives (chapter 10) -/

theorem answer (h : s.Confined k t) (d : Directive) (rc : ReplyCode) (data : ReplyData) :
    s.Confined k (t.answer d rc data) := by
  refine State.Confined.withDu (State.Confined.reply (h.withDu (x := (t.countRefusal rc).du) id) ..) ?_
  rintro ⟨hfifo, hf, hp⟩
  exact ⟨(List.length_tail ▸ Nat.sub_le ..).trans hfifo, hf, hp⟩

theorem receiveDirective (h : s.Confined k t) (d : Directive) : s.Confined k (t.receiveDirective d) := by
  unfold State.receiveDirective
  split
  · next hroom =>
    refine h.withDu fun ⟨_, hf, hp⟩ => ⟨?_, hf, hp⟩
    simpa using hroom
  · exact State.Confined.notify (h.withDu (by exact id)) _

/-- What the owner of a directive confines, its execution confines. -/
theorem execute {d : DirKind} {owner : Directive → State → Taken}
    (howner : ∀ d (t : State), t.Confined 0 (owner d t).state) (s : State) : s.Confined 0 (s.execute d owner) :=
  State.execute_induction (P := s.Confined 0) (.refl s) (fun _ _ _ _ h => h.answer ..)
    (fun d => ((State.Confined.refl s).withDu (by exact id)).trans (howner d _))

/-! ## The Take Controller (chapter 8) -/

theorem advanceRecordRun (h : s.Confined k t) : s.Confined k t.advanceRecordRun := h.withTcu (by exact id)

theorem handItem (h : s.Confined k t) (l : LaneId) (take : Option Nat) (i : Item) :
    s.Confined k (t.handItem l take i) := by
  unfold State.handItem
  split
  · exact h.push l i
  · split
    · exact h.push l i
    · exact h.setHold ..

theorem enterClosing (h : s.Confined k t) (x : TakeRec) : s.Confined k (t.enterClosing x) :=
  State.Confined.withTkc (h.editTake ..) (by rfl) (by exact id)

theorem closeOnLane (h : s.Confined k t) (x : TakeRec) (l : LaneId) : s.Confined k (t.closeOnLane x l) := by
  unfold State.closeOnLane State.releaseHold
  split
  · exact ((h.pushMarker ..).setHold ..).pushAll ..
  · exact h

theorem promote (h : s.Confined k t) : s.Confined k t.promote := by
  unfold State.promote
  split
  · split
    · exact h.enterClosing _
    · exact h
  · exact h

theorem closeTake (h : s.Confined k t) (x : TakeRec) : s.Confined k (t.closeTake x) :=
  (((State.Confined.withTkc (h.editTake ..) (by rfl) (by exact id)).closeOnLane ..).closeOnLane ..).promote

theorem closeIfDone (h : s.Confined k t) : s.Confined k t.closeIfDone := by
  unfold State.closeIfDone
  split
  · exact h
  · split
    · exact h
    · exact h.closeTake _

theorem testClosing (h : s.Confined k t) : s.Confined k t.testClosing := h.closeIfDone.closeIfDone

theorem handUnit (h : s.Confined k t) (st : Stream) (source : Nat) (toA toB : Bool) (take : Option Nat) :
    s.Confined k (t.handUnit st source toA toB take) := by
  have hhand : ∀ {u : State} (b : Bool) (l : LaneId), s.Confined k u →
      s.Confined k (if b then u.handItem l take (.unit st source) else u) := by
    intro u b l hu
    cases b
    · exact hu
    · exact hu.handItem ..
  unfold State.handUnit
  dsimp only
  split
  · exact hhand toB .b (hhand toA .a h)
  · exact ((hhand toB .b (hhand toA .a h)).editTake ..).testClosing

theorem removeFinished (h : s.Confined k t) (source : Nat) : s.Confined k (t.removeFinished source) :=
  { h with table := fun b => (List.length_filter_le ..).trans (h.table b) }

theorem finish (h : s.Confined k t) (st : Stream) (source : Nat) (x : StreamState) :
    s.Confined k (t.finish st source x) := by
  unfold State.finish
  split
  · exact h
  · have hedit := h.editRecord source fun r => r.withState st x
    dsimp only
    split
    · exact hedit.removeFinished _
    · split
      · exact ((hedit.editTake ..).removeFinished _).testClosing
      · exact (hedit.removeFinished _).testClosing

theorem addProxyGap (h : s.Confined k t) : s.Confined k t.addProxyGap := h.withScP fun _ => add16_le ..

theorem handWaiting (h : s.Confined k t) (source : Nat) : s.Confined k (t.handWaiting source) := by
  unfold State.handWaiting
  split
  · exact h
  · exact State.Confined.handUnit (h.withTkc (by rfl) (by exact id)) ..

theorem unitCompleted (h : s.Confined k t) (e : DirEntry) (st : Stream) : s.Confined k (t.unitCompleted e st) := by
  cases st with
  | f =>
    simp only [State.unitCompleted]
    split
    · exact (h.handUnit ..).handWaiting _
    · exact h
  | p =>
    simp only [State.unitCompleted]
    split
    · split
      · exact h.handUnit ..
      · exact h.withTkc (by rfl) (by exact id)
    · exact h.handUnit ..

theorem joinPicture (h : s.Confined k t) (take source : Nat) : s.Confined k (t.joinPicture take source) := by
  unfold State.joinPicture State.stampPicture
  split
  · exact ((h.editRecord ..).editEntry ..).editEntry ..
  · exact (((h.editRecord ..).editEntry ..).editEntry ..).advanceRecordRun

theorem deliver (h : s.Confined k t) (take : Nat) (x : Handing) : s.Confined k (t.deliver take x) := by
  unfold State.deliver
  split
  · exact h.handUnit ..
  · exact h.withTkc (by rfl) (by exact id)

theorem openOnLane (h : s.Confined k t) (x : TakeRec) (l : LaneId) : s.Confined k (t.openOnLane x l) := by
  unfold State.openOnLane
  split
  · exact h.handItem ..
  · exact h

/-- Behind take number 65,535 comes 1 (R138). -/
theorem createTake (h : s.Confined k t) (x : TakeRec) (clamped : Bool) : s.Confined k (t.createTake x clamped) := by
  have hroom : t.tkc.makeRoom.lastOpen = t.tkc.lastOpen ∧ t.tkc.makeRoom.pmax = t.tkc.pmax ∧
      t.tkc.makeRoom.nextTake = t.tkc.nextTake := by
    unfold Tkc.makeRoom
    split <;> exact ⟨rfl, rfl, rfl⟩
  obtain ⟨hlast, hpmax, hnext⟩ := hroom
  refine h.withTkc hlast ?_
  rintro ⟨hp, hlow, hhigh⟩
  refine ⟨hpmax.trans_le hp, ?_⟩
  simp only [hnext, nextTakeNumber]
  split <;> omega

theorem joinPreRoll (h : s.Confined k t) (x : TakeRec) (sources : List Nat) :
    s.Confined k (t.joinPreRoll x sources) :=
  .foldl (fun t _ => (State.Confined.refl t).deliver ..) _
    (.foldl (fun t _ => (State.Confined.refl t).editEntry ..) _
      (.editTake (.foldl (fun t _ => (State.Confined.refl t).joinPicture ..) _ h) ..))

theorem startTake (h : s.Confined k t) (p : Nat) : s.Confined k (t.startTake p) :=
  (((h.createTake ..).openOnLane ..).openOnLane ..).joinPreRoll ..

theorem leaveOpen (h : s.Confined k t) (x : TakeRec) (reason : EndReason) (e : Int) :
    s.Confined k (t.leaveOpen x reason e) := by
  simp only [State.leaveOpen]
  split
  · exact h.editTake ..
  · exact ((h.editTake ..).enterClosing _).testClosing

theorem cutHold (h : s.Confined k t) (x : TakeRec) (newEnd : Int) (l : LaneId) :
    s.Confined k (t.cutHold x newEnd l) := (h.clearNeeds ..).setHold ..

theorem clearWaiting (h : s.Confined k t) (w : Waiting) : s.Confined k (t.clearWaiting w) := h.editEntry ..

theorem dropPictures (h : s.Confined k t) (x : TakeRec) (newEnd : Int) : s.Confined k (t.dropPictures x newEnd) := by
  simp only [State.dropPictures]
  generalize hu : List.foldl State.clearWaiting _ _ = u
  have hwaiting : s.Confined k u := hu ▸ .foldl (fun t w => (State.Confined.refl t).clearWaiting w) _
    ((h.cutHold x newEnd .a).cutHold x newEnd .b)
  exact { hwaiting with table := fun b => by simpa using hwaiting.table b }

theorem cut (h : s.Confined k t) (c : Nat) (reason : EndReason) : s.Confined k (t.cut c reason) := by
  simp only [State.cut]
  split
  · exact h.withTkc (by rfl) (by exact id)
  · split
    · exact (State.Confined.dropPictures (h.withTkc (by rfl) (by exact id)) ..).leaveOpen ..
    · exact ((State.Confined.dropPictures (h.withTkc (by rfl) (by exact id)) ..).editTake ..).testClosing

theorem restartTold (h : s.Confined k t) (c : Option Nat) : s.Confined k (t.restartTold c) := by
  unfold State.restartTold
  split
  · exact h.cut ..
  · split
    · exact h.leaveOpen ..
    · exact h

theorem dropFromTkc (h : s.Confined k t) (st : Stream) (source : Nat) : s.Confined k (t.dropFromTkc st source) := by
  simp only [State.dropFromTkc]
  refine State.Confined.setHold ?_ ..
  split
  · exact State.Confined.editTake (h.withTkc (by rfl) (by exact id)) ..
  · exact h

theorem triggerEvent (h : s.Confined k t) (x : TrigKind) : s.Confined k (t.triggerEvent x) := by
  have hstart : s.Confined k (match x with
      | .toggle | .start => t.startTake t.tkc.pmax
      | .stop => t.ignoreTrigger) := by
    cases x
    · exact h.startTake _
    · exact h.startTake _
    · exact h.withTkc (by rfl) (by exact id)
  unfold State.triggerEvent
  split
  · exact hstart
  · exact hstart
  · split
    · exact h.withTkc (by rfl) (by exact id)
    · cases x
      · exact h.leaveOpen ..
      · exact h.withTkc (by rfl) (by exact id)
      · exact h.leaveOpen ..

/-! ## The Proxy Scaler (chapter 3) -/

theorem emptySlot (h : s.Confined k t) (i : SlotId) : s.Confined k (t.emptySlot i) := by
  unfold State.emptySlot
  split
  · exact h
  · exact h.withPs _

theorem abandonPs (h : s.Confined k t) (source : Nat) : s.Confined k (t.abandonPs source) := by
  refine State.Confined.withPs (?_ : s.Confined k (t.emptySlotsOf source)) _
  have hone : s.Confined k (if t.ps.holds .one source then t.emptySlot .one else t) := by
    split
    · exact h.emptySlot _
    · exact h
  simp only [State.emptySlotsOf]
  generalize (if t.ps.holds .one source then t.emptySlot .one else t) = u at hone ⊢
  split
  · exact hone.emptySlot _
  · exact hone

theorem loseProxy (h : s.Confined k t) (source : Nat) : s.Confined k (t.loseProxy source) := h.addProxyGap.finish ..

theorem abandon (h : s.Confined k t) (source row : Nat) : s.Confined k (t.abandon source row) := by
  simp only [State.abandon]
  split
  · exact State.Confined.notify (State.Confined.withScP (h.abandonPs source) (by exact id)) _
  · exact ((h.abandonPs source).loseProxy source).notify _

theorem rowComplete (h : s.Confined k t) (c : Scaled) : s.Confined k (t.rowComplete c) := by
  unfold State.rowComplete
  split
  · exact h.withPs _
  · exact h.abandon ..

theorem scalePosition (h : s.Confined k t) (pos : Nat) (samples : Option (List Sample)) :
    s.Confined k (t.scalePosition pos samples) := by
  unfold State.scalePosition
  split
  · dsimp only
    split
    · exact State.Confined.rowComplete (h.withPs _) _
    · exact h.withPs _
  all_goals exact h

theorem scaleRun (h : s.Confined k t) (first n : Nat) : s.Confined k (t.scaleRun first n) := by
  induction n generalizing t first with
  | zero => exact h
  | succ n ih => exact ih (h.scalePosition ..) _

theorem tap (h : s.Confined k t) (e : FifoEntry) : s.Confined k (t.tap e) := by
  cases e with
  | openE source => exact h
  | tileE pos samples => exact h.scalePosition ..
  | runE first count => exact h.scaleRun ..
  | endE => exact h.withPs _

theorem psOpen (h : s.Confined k t) (source : Nat) (kept align : Bool) :
    s.Confined k (t.psOpen source kept align) := by
  simp only [State.psOpen]
  split <;> split
  · exact State.Confined.editRecord (h.withPs _) ..
  · exact State.Confined.addProxyGap (h.withPs _)
  · exact State.Confined.editRecord (h.withPs _) ..
  · exact h.withPs _

theorem restartPs (h : s.Confined k t) : s.Confined k t.restartPs :=
  .foldl (fun t _ => (State.Confined.refl t).loseProxy _) _
    (State.Confined.withPs ((h.emptySlot .one).emptySlot .two) _)

/-! ## The Frame Store's work for a context (chapter 6) -/

theorem walk (h : s.Confined k t) (st : Stream) (size n : Nat) : s.Confined k (t.walk st size n) := by
  have hrelease : ∀ {u : State} e, s.Confined k u → s.Confined k (u.releaseForSpace st e) := by
    intro u e hu
    simp only [State.releaseForSpace]
    split
    · exact (((hu.setRingState ..).setRingState ..).ringDropB ..).dropFromTkc ..
    · exact hu.setRingState ..
  induction n generalizing t with
  | zero => exact h
  | succ n ih =>
    unfold State.walk
    split
    · exact h
    · split
      · exact h
      · split
        · exact h
        · exact ih (hrelease _ h)

theorem spill (h : s.Confined k t) (st : Stream) (source size : Nat) : s.Confined k (t.spill st source size) := by
  have hnote : s.Confined k (t.noteSpill st source size) := by
    simp only [State.noteSpill]
    split
    · exact h.setRingState ..
    · exact (h.setRingState ..).notify _
  cases st with
  | f => exact hnote.cut ..
  | p => exact hnote

theorem writeRow (h : s.Confined k t) (st : Stream) (rows : Nat) (bytes : List Byte) :
    s.Confined k (t.writeRow st rows bytes) := by
  unfold State.writeRow
  dsimp only
  split
  · exact (h.setRingState st _).withStore ..
  · exact h

theorem writeFront (h : s.Confined k t) (st : Stream) (c : Completion) (start : Nat) (g : Ring) :
    s.Confined k (t.writeFront st c start g) := h.withStore ..

theorem completeUnit (h : s.Confined k t) (st : Stream) (c : Completion) : s.Confined k (t.completeUnit st c) := by
  unfold State.completeUnit
  split
  · exact (((((h.writeFront ..).setRingState ..).unitCompleted ..).finish ..).setRingState ..).ordinaryRelease _
  · exact h

/-! ## The Tile Coder and the contexts (chapter 4) -/

theorem answerRestarts (h : s.Confined k t) (st : Stream) (cancelled : Option Nat) :
    s.Confined k (t.answerRestarts st cancelled) := by
  have hlist : s.Confined k (t.setWaitList st []) := by
    cases st
    · exact h.withDu fun ⟨hfifo, _, hp⟩ => ⟨hfifo, Nat.zero_le _, hp⟩
    · exact h.withDu fun ⟨hfifo, hf, _⟩ => ⟨hfifo, hf, Nat.zero_le _⟩
  unfold State.answerRestarts
  generalize t.setWaitList st [] = u at hlist ⊢
  induction t.waitList st generalizing u with
  | nil => exact hlist
  | cons w rest ih => exact ih _ (hlist.reply ..)

theorem cancelPicture (h : s.Confined k t) (st : Stream) (cancelled : Option Nat) :
    s.Confined k (t.cancelPicture st cancelled) := by
  unfold State.cancelPicture
  split
  · exact (h.discardUnit _).restartTold _
  · split
    · exact h
    · exact h.restartTold _
  · exact (h.discardUnit _).loseProxy _
  · exact h

theorem applyRestart (h : s.Confined k t) (st : Stream) (read : Option Nat) :
    s.Confined k (t.applyRestart st read) :=
  State.Confined.answerRestarts (State.Confined.setCtx (State.Confined.setWs
    (State.Confined.cancelPicture (h.setCtx st (by exact id)) ..) ..) st (by exact id)) ..

theorem applyRestartInactive (h : s.Confined k t) (st : Stream) : s.Confined k (t.applyRestartInactive st) :=
  State.Confined.answerRestarts (State.Confined.setWs (h.setCtx st (by exact id)) ..) ..

theorem applyAbandon (h : s.Confined k t) (n : Nat) : s.Confined k (t.applyAbandon n) := by
  have hread : ∀ a, s.Confined k { t with scP := { t.scP with abandon := a } } := fun _ => h.withScP (by exact id)
  unfold State.applyAbandon
  dsimp only
  generalize (if t.scP.abandon = some n then none else t.scP.abandon) = a
  split
  · exact (((hread a).discardUnit _).loseProxy _).setWs ..
  · exact State.Confined.withScP (hread a) (by exact id)

theorem activate (h : s.Confined k t) (st : Stream) (n : Nat) : s.Confined k (t.activate st n) := by
  have htables : ∀ a, s.Confined k ((t.setTables st ((t.tables st).applyDue n)).setCtx st
      { t.ctx st with activate := a }) := by
    intro a
    refine (h.setTables ..).setCtx st ?_
    cases st <;> exact id
  unfold State.activate
  dsimp only
  split
  all_goals exact (htables _).setWs ..

theorem endTurn (h : s.Confined k t) : s.Confined k t.endTurn := by
  unfold State.endTurn
  dsimp only
  split
  · split
    · exact State.Confined.withTc (h.withPs _) (by exact id)
    · exact h.withTc (by exact id)
  · exact h.withTc (by exact id)

theorem finishNotCoded (h : s.Confined k t) (st : Stream) (source : Nat) :
    s.Confined k (t.finishNotCoded st source) := by
  unfold State.finishNotCoded
  split
  · split
    · exact h
    · exact h.finish ..
  · exact h

theorem passRow (h : s.Confined k t) (r : ProxyRow) : s.Confined k (t.passRow r) := by
  simp only [State.passRow]
  split
  · exact State.Confined.finishNotCoded (State.Confined.addProxyGap (h.withScP (by exact id))) ..
  · exact h

theorem endEmptyTurn (h : s.Confined k t) : s.Confined k t.endEmptyTurn := by
  unfold State.endEmptyTurn
  split
  · exact h.endTurn.passRow _
  · exact h.endTurn

end State.Confined

/-! Removing entries from the head of the Tile FIFO makes it no longer (R68, R69, R72, R73). -/

theorem dropPositions_length (n : Nat) (l : List FifoEntry) : (dropPositions n l).length ≤ l.length := by
  induction l generalizing n with
  | nil => simp [dropPositions]
  | cons e rest ih =>
    have hrest : ∀ m, (dropPositions m rest).length ≤ rest.length + 1 := fun m => (ih m).trans (Nat.le_succ _)
    cases e with
    | openE | endE => simp [dropPositions]
    | tileE =>
      unfold dropPositions
      split
      · exact Nat.le_refl _
      · exact hrest _
    | runE =>
      unfold dropPositions
      split
      · exact Nat.le_refl _
      · split
        · exact hrest _
        · exact Nat.le_refl _

theorem dropEnd_length (l : List FifoEntry) : (dropEnd l).length ≤ l.length := by
  unfold dropEnd
  split
  · exact Nat.le_succ _
  all_goals exact Nat.le_refl _

namespace State.Confined

variable {k : Nat} {s t : State}

theorem endSpilled (h : s.Confined k t) (st : Stream) (source : Nat) : s.Confined k (t.endSpilled st source) := by
  cases st with
  | f =>
    refine State.Confined.finish (State.Confined.setWs ?_ ..) ..
    exact State.Confined.editFifo (h.setCtx .f (by exact id)) (dropEnd_length _)
  | p =>
    refine State.Confined.finish (State.Confined.setWs ?_ ..) ..
    exact State.Confined.addProxyGap (h.setCtx .p (by exact id))

theorem discardRow (h : s.Confined k t) (st : Stream) (p : ProfileRec) : s.Confined k (t.discardRow st p) := by
  have hrow : s.Confined k (match st with
      | .f => t.editFifo (dropPositions p.tilesAcross)
      | .p => t) := by
    cases st
    · exact h.editFifo (dropPositions_length ..)
    · exact h
  unfold State.discardRow
  dsimp only
  refine State.Confined.endTurn ?_
  split
  · split
    · exact hrow.endSpilled ..
    · exact hrow
  · exact hrow.setWs ..

theorem reserveAndStart (h : s.Confined k t) (st : Stream) (source : Nat) (p : ProfileRec) :
    s.Confined k (t.reserveAndStart st source p) := by
  have hwalk := h.walk st p.granules (t.ringState st).dir.length
  simp only [State.reserveAndStart]
  split
  · exact ((hwalk.setRingState ..).setWs ..).editRecord ..
  · exact (((hwalk.spill ..).setWs ..).editRecord ..).discardRow ..

theorem startPicture (h : s.Confined k t) (st : Stream) (source : Nat) (activate : Bool) :
    s.Confined k (t.startPicture st source activate) := by
  have hactive : s.Confined k (if activate then t.activate st source else t) := by
    split
    · exact h.activate ..
    · exact h
  simp only [State.startPicture]
  split
  · exact (hactive.setWs ..).reserveAndStart ..
  all_goals exact hactive.endEmptyTurn

theorem continueF (h : s.Confined k t) (x : Turn) : s.Confined k (t.continueF x) := by
  have hstart : s.Confined k (match t.ti.fifo with
      | .openE source :: rest => (t.editFifo fun _ => rest).startPicture .f source x.activate
      | .tileE .. :: _ | .runE .. :: _ | .endE .. :: _ | [] => t.endEmptyTurn) := by
    split
    · next hfifo => exact (h.editFifo (by simp [hfifo])).startPicture ..
    all_goals exact h.endEmptyTurn
  unfold State.continueF
  split
  · exact hstart
  · exact hstart
  · exact h
  · split
    · exact h.discardRow ..
    · exact h.endEmptyTurn

theorem continueP (h : s.Confined k t) (x : Turn) : s.Confined k (t.continueP x) := by
  have hstart : ∀ r : ProxyRow, s.Confined k
      (if r.row = 0 then t.startPicture .p r.source x.activate else t.endEmptyTurn) := by
    intro r
    split
    · exact h.startPicture ..
    · exact h.endEmptyTurn
  unfold State.continueP
  split
  · exact h.endEmptyTurn
  · split
    · exact hstart _
    · exact hstart _
    · split
      · exact h
      · exact h.endEmptyTurn
    · split
      · split
        · exact h.discardRow ..
        · exact h.endEmptyTurn
      · exact h.endEmptyTurn

theorem startTurn (h : s.Confined k t) (x : Turn) : s.Confined k (t.startTurn x) := by
  have hrestart : s.Confined k (if x.restart then t.applyRestart x.stream x.abandon else t) := by
    split
    · exact h.applyRestart ..
    · exact h
  unfold State.startTurn
  dsimp only
  generalize (if x.restart then t.applyRestart x.stream x.abandon else t) = u at hrestart ⊢
  have habandon : s.Confined k (match x.abandon with
      | some n => if x.restart then u else u.applyAbandon n
      | none => u) := by
    split
    · split
      · exact hrestart
      · exact hrestart.applyAbandon _
    · exact hrestart
  split
  · exact habandon.continueF _
  · exact habandon.continueP _

theorem arbiterChoice (h : s.Confined k t) : s.Confined k t.arbiterChoice := by
  have hchoose : ∀ x : Turn, s.Confined k { t with tc := t.tc.choose x } := by
    intro x
    refine h.withTc fun _ => ?_
    simp only [Tc.choose]
    split
    · exact Nat.min_le_right ..
    · exact Nat.zero_le _
  unfold State.arbiterChoice State.giveTurn
  split
  · dsimp only
    split
    · exact hchoose _
    · exact (hchoose _).startTurn _
  all_goals exact h

theorem handOver (h : s.Confined k t) : s.Confined k t.handOver := by
  have hsave : s.Confined k t.saveWorkingSet := by
    unfold State.saveWorkingSet
    split
    · exact h.setCtx _ (by exact id)
    · exact h
  unfold State.handOver
  split
  · exact h
  · split
    · exact State.Confined.startTurn (State.Confined.withTc (State.Confined.withTc hsave (by exact id)) (by exact id)) _
    · exact h

theorem endPicture (h : s.Confined k t) (st : Stream) (source : Nat) (p : ProfileRec) :
    s.Confined k (t.endPicture st source p) := by
  have hceiling : ∀ {u : State} w, s.Confined k u → s.Confined k (u.noteCeiling st source p w) := by
    intro u w hu
    unfold State.noteCeiling
    split
    · exact hu.notify _
    · exact hu
  have hgap : s.Confined k { t with scP := { t.scP with gap := 0 } } := h.withScP fun _ => Nat.zero_le _
  cases st with
  | f =>
    refine (hceiling _ (State.Confined.setWs ?_ ..)).completeUnit ..
    exact State.Confined.setCtx (h.editFifo (dropEnd_length _)) .f (by exact id)
  | p => exact (hceiling _ (State.Confined.setWs (hgap.setCtx .p (by exact id)) ..)).completeUnit ..

theorem endRow (h : s.Confined k t) (x : Turn) (p : ProfileRec) : s.Confined k (t.endRow x p) := by
  have hrow : ∀ w, s.Confined k ((t.writeRow x.stream p.rows x.rowBytes).setWs x.stream w) :=
    fun w => (h.writeRow ..).setWs ..
  unfold State.endRow
  dsimp only
  refine State.Confined.endTurn ?_
  split
  · split
    · exact (hrow _).endPicture ..
    · exact hrow _
  · exact hrow _

theorem codePiece (h : s.Confined k t) (x : Turn) (p : ProfileRec) (y : Piece) :
    s.Confined k (t.codePiece x p y) := by
  have hpiece : ∀ {u : State} st w z n, s.Confined k u →
      s.Confined k { (u.setWs st w) with tc := { (u.setWs st w).tc with turn := z }, freeTick := n } :=
    fun st w _ _ hu => { hu.setWs st w with }
  have hfifo : s.Confined k (t.editFifo (dropPositions 1)) := h.editFifo (dropPositions_length ..)
  cases hst : x.stream with
  | f =>
    simp only [State.codePiece, hst]
    split
    · exact (hpiece _ _ _ _ hfifo).endRow ..
    · exact hpiece _ _ _ _ hfifo
  | p =>
    simp only [State.codePiece, hst]
    split
    · exact (hpiece _ _ _ _ h).endRow ..
    · exact hpiece _ _ _ _ h

theorem codeTile (h : s.Confined k t) : s.Confined k t.codeTile := by
  unfold State.codeTile
  split
  · exact h
  · split
    · exact h
    · split
      · exact h.codePiece ..
      all_goals exact h

theorem passByEntry (h : s.Confined k t) : s.Confined k t.passByEntry := by
  unfold State.passByEntry
  split
  · exact h
  · next e rest hfifo =>
    have hrest : s.Confined k (t.editFifo fun _ => rest) := h.editFifo (by simp [hfifo])
    split
    · dsimp only
      split
      · exact State.Confined.finishNotCoded (hrest.withScF _) ..
      all_goals exact hrest
    · exact h

theorem passByRow (h : s.Confined k t) : s.Confined k t.passByRow := by
  unfold State.passByRow
  split
  · exact h
  · split
    · exact State.Confined.passRow (h.withPs _) _
    · exact h

theorem keepReply (h : s.Confined k t) (st : Stream) (d : Directive) : s.Confined k (t.keepReply st d) := by
  unfold State.keepReply
  split
  · next hroom =>
    cases st
    · exact h.withDu fun ⟨hfifo, _, hp⟩ => ⟨hfifo, by simpa using hroom, hp⟩
    · exact h.withDu fun ⟨hfifo, hf, _⟩ => ⟨hfifo, hf, by simpa using hroom⟩
  · exact h.withDu (by exact id)

theorem postRestart (h : s.Confined k t) (st : Stream) (d : Directive) : s.Confined k (t.postRestart st d) := by
  have hpost : ∀ {u : State}, s.Confined k u →
      s.Confined k ((u.keepReply st d).setCtx st { (u.keepReply st d).ctx st with restart := true }) :=
    fun hu => (hu.keepReply st d).setCtx st (by exact id)
  cases st with
  | f =>
    simp only [State.postRestart]
    split
    · exact (hpost h).applyRestartInactive .f
    · exact hpost h
  | p =>
    simp only [State.postRestart]
    split
    · exact (hpost h.restartPs).applyRestartInactive .p
    · exact hpost h.restartPs

theorem restartDirective (h : s.Confined k t) : s.Confined k t.restartDirective := by
  unfold State.restartDirective
  split
  · exact h
  · split
    · exact h
    · split
      · exact h.answer ..
      · split
        · exact State.Confined.answer (h.withDu (by exact id)) ..
        · refine State.Confined.withDu (State.Confined.postRestart (h.withDu (by exact id)) ..) ?_
          rintro ⟨hfifo, hf, hp⟩
          exact ⟨(List.length_tail ▸ Nat.sub_le ..).trans hfifo, hf, hp⟩

/-! ## The Timecode Unit (chapter 7) -/

theorem takeRefLoss (h : s.Confined k t) : s.Confined k t.takeRefLoss := by
  unfold State.takeRefLoss
  split
  · refine State.Confined.notify (h.withTcu ?_) _
    exact fun ⟨hopens, _, _⟩ => ⟨hopens, nofun, Nat.zero_le _⟩
  · exact h

/-- The open that brings the opens since the pulse to 8 takes the loss (R123). -/
theorem tcuOpen (h : s.Confined k t) (source : Nat) : s.Confined k (t.tcuOpen source) := by
  have hopens : (t.tcu.noteOpen source).opensSincePulse ≤ 8 := Nat.min_le_right ..
  unfold State.tcuOpen State.takeRefLoss
  split
  · refine State.Confined.notify (h.withTcu ?_) _
    exact fun _ => ⟨hopens, nofun, Nat.zero_le _⟩
  · next hdue =>
    refine h.withTcu fun ⟨_, _, hloss⟩ => ⟨hopens, fun hpresent => ?_, ?_⟩
    · by_contra hlt
      exact hdue (by simp [Tcu.lossDue, hpresent, Nat.le_of_not_lt hlt])
    · simp only [Tcu.noteOpen]
      split
      · exact hloss
      · exact add16_le ..

/-- A pulse that restores REF clears the opens since the pulse (R122). -/
theorem refPulse (h : s.Confined k t) : s.Confined k t.refPulse := by
  have hinterval : ∀ c : Tcu, c.endInterval.tick.opensSinceLoss = c.opensSinceLoss := by
    intro c
    unfold Tcu.tick
    split <;> rfl
  have hpulse : ∀ c : Tcu, c.opensSinceLoss ≤ 65535 → c.countPulse.watchBounded :=
    fun c hloss => ⟨Nat.zero_le _, fun _ => Nat.zero_lt_succ _, hloss⟩
  have hloss := h.takeRefLoss
  simp only [State.refPulse, State.restoreRef]
  generalize t.takeRefLoss = u at hloss ⊢
  split
  · exact hloss.withTcu fun ⟨_, _, hu⟩ => hpulse _ ((hinterval _).trans_le hu)
  · have hnotice := hloss.notify (.refRestored u.tcu.endInterval.tick.freeRun u.tcu.endInterval.tick.opensSinceLoss)
    exact hnotice.withTcu fun ⟨_, _, hu⟩ => hpulse _ ((hinterval _).trans_le hu)

theorem trigEdge (h : s.Confined k t) (rising : Bool) : s.Confined k (t.trigEdge rising) := by
  simp only [State.trigEdge]
  split
  · exact h
  · split
    · exact State.Confined.triggerEvent (State.Confined.withTcu (h.withTcu (by exact id)) (by exact id)) _
    · exact h.withTcu (by exact id)

/-! ## The Profile Store (chapter 1) -/

theorem pendProfile (h : s.Confined k t) (st : Stream) (r : ProfileRec) : s.Confined k (t.pendProfile st r) := by
  cases st
  · exact State.Confined.withScF (h.withPrs _) _
  · exact State.Confined.withScP (h.withPrs _) (by exact id)

theorem pendLadder (h : s.Confined k t) (st : Stream) (steps : List Nat) : s.Confined k (t.pendLadder st steps) := by
  cases st
  · exact State.Confined.withScF (h.withPrs _) _
  · exact State.Confined.withScP (h.withPrs _) (by exact id)

theorem useSerial (h : s.Confined k t) : s.Confined k t.useSerial := h.withPrs _

theorem loadF (h : s.Confined k t) (x : Settings) (clamped : Bool) : s.Confined k (t.loadF x clamped).state := by
  have hload : ∀ r, s.Confined k (t.useSerial.pendProfile .f r) := fun r => h.useSerial.pendProfile ..
  unfold State.loadF
  dsimp only
  split
  · dsimp only
    exact (hload _).useSerial.pendProfile ..
  · exact hload _

theorem loadP (h : s.Confined k t) (x : Settings) (clamped : Bool) : s.Confined k (t.loadP x clamped).state := by
  unfold State.loadP
  dsimp only
  exact h.useSerial.pendProfile ..

theorem setRing (h : s.Confined k t) (st : Stream) (r : Ring) : s.Confined k (t.setRing st r) :=
  (h.setTables ..).setRingState ..

/-! ## The Tile Intake (chapter 2) -/

theorem goodHeader (h : s.Confined k t) : s.Confined k t.goodHeader :=
  { h with fails := fun _ => Nat.zero_le _ }

/-- The third header failure in a row loses the lock and ends the count (R20). -/
theorem headerFailure (h : s.Confined k t) : s.Confined k t.headerFailure := by
  unfold State.headerFailure
  split
  · exact h
  · dsimp only
    split
    · next hfails => exact { h with fails := fun _ => Nat.le_of_lt_succ hfails }
    · exact { h with fails := fun _ => Nat.zero_le _ }

theorem appendEntry (h : s.Confined k t) (e : FifoEntry) : s.Confined (k + 1) (t.appendEntry e) := by
  have hlonger : s.Confined (k + 1) { t with ti := { t.ti with fifo := t.ti.fifo ++ [e] } } :=
    { h with fifo := by have := h.fifo; simp only [List.length_append, List.length_singleton]; omega }
  exact hlonger.tap e

theorem appendEnd (h : s.Confined k t) : s.Confined (k + 1) t.appendEnd := by
  unfold State.appendEnd
  split
  · exact h.appendEntry _
  · exact h.appendEntry _

/-- Closing an OPEN picture takes two entries (R30, R36). -/
theorem truncate (h : s.Confined k t) (ho : t.ti.status = .opened) : s.Confined (k + 2) t.truncate := by
  unfold State.truncate
  rw [if_pos ho]
  exact ((((h.editRecord ..).countTi _).countTi _).appendEntry _).appendEnd

theorem loseTile (h : s.Confined k t) : s.Confined k t.loseTile := by
  simp only [State.loseTile]
  split
  · exact State.Confined.withTi (h.countTi _) (by simp)
  · exact State.Confined.notify (State.Confined.withTi (h.countTi _) (by simp)) _

/-- Behind the last position END is appended and the picture is ENDED, so that a picture that stays OPEN has nothing
appended (R32). -/
theorem endIfLast (h : s.Confined k t) (position : Nat) :
    s.Confined (k + 1) (t.endIfLast position) ∧
      ((t.endIfLast position).ti.status = .opened → s.Confined k (t.endIfLast position)) := by
  unfold State.endIfLast
  split
  · exact ⟨{ h.appendEnd with opened := nofun }, nofun⟩
  · exact ⟨h.trans { State.Confined.refl t with fifo := Nat.le_succ _ }, fun _ => h⟩

theorem appendTile (h : s.Confined k t) (position : Nat) (samples : List Sample) :
    s.Confined (k + 2) (t.appendTile position samples) ∧
      ((t.appendTile position samples).ti.status = .opened → s.Confined (k + 1) (t.appendTile position samples)) :=
  State.Confined.endIfLast (State.Confined.withTi (h.appendEntry _) (by simp)) position

theorem coverGap (h : s.Confined k t) (position : Nat) : s.Confined (k + 1) (t.coverGap position) :=
  State.Confined.appendEntry ((h.editRecord ..).countTi _) _

theorem compareClose (h : s.Confined k t) (count : Nat) : s.Confined k (t.compareClose count) := by
  unfold State.compareClose
  split
  · exact h
  · exact (h.countTi _).editRecord ..

theorem takeClose (h : s.Confined k t) (linkSeq count : BitVec 16) : s.Confined k (t.takeClose linkSeq count) := by
  simp only [State.takeClose]
  split
  · exact h.goodHeader.countTi _
  · exact h.goodHeader.countTi _
  · split
    · exact h.goodHeader.compareClose _
    · exact h.goodHeader.compareClose _
    · exact h.goodHeader
    · exact h.goodHeader

end State.Confined

/-! ## Picture opens (R24, R25, R29) -/

/-- The picture-open event grows no queue of the TI and takes no count over its bound (R29). -/
theorem State.openEvent_within (s : State) (source : Nat) (kept : Bool) : s.Within 0 (s.openEvent source kept) := by
  have htkc : ∀ u : State, u.Within 0 (u.tkcOpen source kept) := by
    intro u
    have hopen : u.Within 0 { u with tkc := { u.tkc with lastOpen := some source } } := { Within.refl u with }
    have hjoin : ∀ f, u.Within 0 (State.editRecord { u with tkc := { u.tkc with lastOpen := some source } } source f) :=
      fun f => hopen.trans ((Confined.refl _).editRecord source f).toWithin
    simp only [State.tkcOpen]
    split
    · exact hopen
    · split
      · exact hopen
      · split
        · exact hjoin _
        · exact (hjoin _).trans (Confined.refl _).advanceRecordRun.toWithin
  have hps := ((Confined.refl s).tcuOpen source).psOpen source kept s.tcu.alignAwaiting
  have hnewest : s.Within 0 { ((s.tcuOpen source).psOpen source kept s.tcu.alignAwaiting) with
      fsc := { ((s.tcuOpen source).psOpen source kept s.tcu.alignAwaiting).fsc with newest := some source } } :=
    { hps.toWithin with }
  have hrelease := hnewest.trans (((Confined.refl _).ordinaryRelease .f).ordinaryRelease .p).toWithin
  exact (hrelease.trans (htkc _)).trans (((Confined.refl _).countOpen .a).countOpen .b).toWithin

/-- A picture is kept only with room in the Picture Table and three free slots in the Tile FIFO (R25). -/
theorem State.keepOrDrop_kept {s : State} {source : Nat} {dims : Option (Nat × Nat)} {tiles : Nat}
    (h : s.keepOrDrop source dims = .kept tiles) : s.ti.table.length < 8 ∧ s.ti.fifo.length + 3 ≤ 256 := by
  unfold State.keepOrDrop at h
  split at h
  · cases h
  · split at h
    · cases h
    · split at h
      · cases h
      · split at h
        · cases h
        · next htable hfree =>
          unfold Ti.free at hfree
          omega

/-- A dropped picture is not OPEN, and takes no room (R24, R25). -/
theorem State.makeDropped_within {s t : State} (h : s.Confined 0 t) (source : Nat) (linkSeq : BitVec 16) :
    s.Within 0 (t.makeDropped source linkSeq) ∧ (t.makeDropped source linkSeq).ti.status ≠ .opened :=
  ⟨{ h.toWithin with opened := nofun }, nofun⟩

/-- Taking up the picture as decided: a kept one takes a record and an entry (R24 to R27). -/
theorem State.admitPicture_bounded (s : State) (source : Nat) (dims : Option (Nat × Nat)) (linkSeq : BitVec 16)
    (openLost : Bool) :
    (s.ti.fifo.length ≤ 256 → s.listsBounded →
      (s.admitPicture source linkSeq openLost (s.keepOrDrop source dims)).queuesBounded) ∧
    (s.countsBounded → (s.admitPicture source linkSeq openLost (s.keepOrDrop source dims)).countsBounded) := by
  have hdropped : ∀ {t : State}, s.Within 0 t ∧ t.ti.status ≠ .opened →
      (s.ti.fifo.length ≤ 256 → s.listsBounded → t.queuesBounded) ∧ (s.countsBounded → t.countsBounded) := by
    rintro t ⟨h, hstatus⟩
    exact ⟨fun hfifo hlists => t.queuesBounded_iff.2 ⟨h.fifo.trans hfifo, fun ho => absurd ho hstatus, h.lists hlists⟩,
      h.counts⟩
  cases hd : s.keepOrDrop source dims with
  | kept tiles =>
    obtain ⟨htable, hfifo⟩ := State.keepOrDrop_kept hd
    refine ⟨fun _ ⟨_, hdu, ha, hb⟩ => (State.queuesBounded_iff _).2 ⟨?_, fun _ => ?_, ?_, hdu, ha, hb⟩, id⟩
    all_goals
      simp only [State.admitPicture, State.keepPicture, State.appendEntry, State.tap, List.length_append,
        List.length_singleton]
      omega
  | noProfile => exact hdropped (makeDropped_within (((Confined.refl s).countTi _).withTi (by simp)) ..)
  | geometry w h =>
    refine hdropped (makeDropped_within (t := s.noteGeometry source w h) ?_ ..)
    simp only [State.noteGeometry]
    split
    · exact Confined.withTi ((Confined.refl s).countTi _) (by simp)
    · exact Confined.notify (Confined.withTi ((Confined.refl s).countTi _) (by simp)) _
  | capacity r =>
    refine hdropped (makeDropped_within (t := s.noteCapacity source r) ?_ ..)
    simp only [State.noteCapacity]
    split
    · exact Confined.withTi ((Confined.refl s).countTi _) (by simp)
    · exact Confined.notify (Confined.withTi ((Confined.refl s).countTi _) (by simp)) _

/-- From `s` to `t` the queues and the counts each stay within their bounds. -/
def State.Bounded (s t : State) : Prop :=
  (s.queuesBounded → t.queuesBounded) ∧ (s.countsBounded → t.countsBounded)

theorem State.Bounded.trans {s t u : State} (h : s.Bounded t) (g : t.Bounded u) : s.Bounded u :=
  ⟨g.1 ∘ h.1, g.2 ∘ h.2⟩

theorem State.Within.bounded {s t : State} (h : s.Within 0 t) : s.Bounded t := ⟨h.queues_of_none, h.counts⟩

/-- The two slots kept while a picture is OPEN take its RUN and END when it is truncated (R30, R36). -/
theorem State.truncate_bounded (s : State) :
    (s.queuesBounded → s.truncate.ti.fifo.length ≤ 256 ∧ s.truncate.listsBounded) ∧
    (s.countsBounded → s.truncate.countsBounded) := by
  by_cases ho : s.ti.status = .opened
  · have htruncate := (Confined.refl s).truncate ho
    refine ⟨fun hs => ?_, htruncate.counts⟩
    obtain ⟨-, hopened, hlists⟩ := s.queuesBounded_iff.1 hs
    exact ⟨htruncate.fifo.trans (Nat.add_le_add_right (hopened ho) 2), htruncate.lists hlists⟩
  · have hsame : s.truncate = s := if_neg ho
    rw [hsame]
    exact ⟨fun hs => ⟨(s.queuesBounded_iff.1 hs).1, (s.queuesBounded_iff.1 hs).2.2⟩, id⟩

theorem State.openPicture_bounded (s : State) (linkSeq : BitVec 16) (dims : Option (Nat × Nat)) (openLost : Bool) :
    s.Bounded (s.openPicture linkSeq dims openLost) := by
  obtain ⟨hqueues, hcounts⟩ := s.truncate_bounded
  have hadmit := State.admitPicture_bounded
    { s.truncate with ti := { s.truncate.ti with nextSource := s.truncate.ti.nextSource + 1 } }
    s.truncate.ti.nextSource dims linkSeq openLost
  have hopen : s.Bounded (State.admitPicture
      { s.truncate with ti := { s.truncate.ti with nextSource := s.truncate.ti.nextSource + 1 } }
      s.truncate.ti.nextSource linkSeq openLost (State.keepOrDrop
        { s.truncate with ti := { s.truncate.ti with nextSource := s.truncate.ti.nextSource + 1 } }
        s.truncate.ti.nextSource dims)) :=
    ⟨fun hs => hadmit.1 (hqueues hs).1 (hqueues hs).2, fun hs => hadmit.2 (hcounts hs)⟩
  exact hopen.trans (State.openEvent_within ..).bounded

/-! ## Tiles (R30, R32 to R34) -/

/-- A tile that needs `j` more entries before it and finds room leaves two slots for closing the picture (R30). -/
theorem State.Confined.appendTile_bounded {s t : State} {j : Nat} (h : s.Confined j t) (position : Nat)
    (samples : List Sample) (hroom : s.ti.fifo.length + j + 1 ≤ 254) : s.Bounded (t.appendTile position samples) := by
  obtain ⟨htile, hopened⟩ := h.appendTile position samples
  exact ⟨fun hs => htile.queues hs (by omega) fun ho => (hopened ho).fifo.trans (by omega), htile.counts⟩

theorem State.placeTile_bounded (s : State) (position : Nat) (samples : List Sample) :
    s.Bounded (s.placeTile position samples) := by
  unfold State.placeTile Ti.free
  split
  · exact ((Confined.refl s).countTi _).bounded
  · split
    · split
      · exact (Confined.refl s).appendTile_bounded _ _ (by omega)
      · exact (Confined.refl s).loseTile.bounded
    · split
      · exact ((Confined.refl s).coverGap _).appendTile_bounded _ _ (by omega)
      · exact (Confined.refl s).loseTile.bounded

theorem State.currentTile_bounded (s : State) (position : Nat) (samples : List Sample) :
    s.Bounded (s.currentTile position samples) := by
  have hreceived : s.Confined 0 s.countReceived := (Confined.refl s).withTi (by simp)
  unfold State.currentTile
  split
  · split
    · exact ((Confined.refl s).countTi _).bounded
    · exact hreceived.bounded.trans (State.placeTile_bounded ..)
  · split
    · exact ((Confined.refl s).countTi _).bounded
    · exact (hreceived.countTi _).bounded
  · exact ((Confined.refl s).countTi _).bounded
  · exact (Within.refl s).bounded

theorem State.takeOpen_bounded (s : State) (linkSeq seqCopy w h : BitVec 16) :
    s.Bounded (s.takeOpen linkSeq seqCopy w h) := by
  have hheader := (Confined.refl s).goodHeader
  simp only [State.takeOpen]
  split
  · exact (hheader.countTi _).bounded
  · split
    · exact hheader.bounded.trans (State.openPicture_bounded ..)
    · exact (hheader.countTi _).bounded
    · exact (hheader.countTi _).bounded

theorem State.takeTile_bounded (s : State) (linkSeq position : BitVec 16) (bytes : List Byte) :
    s.Bounded (s.takeTile linkSeq position bytes) := by
  have hheader := (Confined.refl s).goodHeader
  simp only [State.takeTile]
  split
  · exact (hheader.countTi _).bounded
  · split
    · exact ((hheader.countTi _).bounded.trans (State.openPicture_bounded ..)).trans (State.currentTile_bounded ..)
    · exact hheader.bounded.trans (State.currentTile_bounded ..)
    · exact (hheader.countTi _).bounded

/-! ## The resets -/

theorem LaneSender.empty_keeps (c : Nat) (x : LaneSender) : x.Keeps c {} :=
  ⟨fun _ => Nat.zero_le _, fun _ => LaneSender.empty_countsBounded⟩

theorem State.afterResetLine_within (s : State) (trigHigh : Bool) : s.Within 0 (s.afterResetLine trigHigh) := by
  obtain ⟨hfails, hshare, hgap, hwatch, hnumbers, -, -⟩ := State.reset.countsBounded_iff.1 State.reset_countsBounded
  obtain ⟨-, -, htable, hdu, -, -⟩ := State.reset.queuesBounded_iff.1 State.reset_queuesBounded
  exact ⟨⟨fun _ => htable, fun _ => hfails, fun _ => hdu, fun _ => hshare, fun _ => hgap, fun _ => hwatch,
    fun _ => hnumbers, LaneSender.empty_keeps .., LaneSender.empty_keeps ..⟩, nofun, Nat.zero_le _⟩

/-- RESET keeps the Directive FIFO and the counts of the REF watch, and empties the rest (R133, R184, R190). -/
theorem State.resetPlane_within (s : State) : s.Within 0 s.resetPlane := by
  obtain ⟨hfails, hshare, hgap, -, hnumbers, -, -⟩ := State.reset.countsBounded_iff.1 State.reset_countsBounded
  rw [State.resetPlane_eq]
  exact ⟨⟨fun _ => Nat.zero_le _, fun _ => hfails, fun ⟨hfifo, _, _⟩ => ⟨hfifo, Nat.zero_le _, Nat.zero_le _⟩,
    fun _ => hshare, fun _ => hgap, id, fun _ => hnumbers, LaneSender.empty_keeps .., LaneSender.empty_keeps ..⟩,
    nofun, Nat.zero_le _⟩

theorem execReset_within (s : State) : s.Within 0 (s.execute .reset ownReset) :=
  State.execute_induction (P := s.Within 0) (.refl s)
    (fun t _ _ _ h => h.trans ((State.Confined.refl t).answer ..).toWithin)
    (fun _ => ((State.Confined.refl s).withDu (by exact id)).takeRefLoss.toWithin.trans (State.resetPlane_within _))

/-! ## The owners of the directives -/

section owners

variable (d : Directive) (s : State)

theorem ownLoadProfile_confined : s.Confined 0 (ownLoadProfile d s).state := by
  unfold ownLoadProfile
  split
  · exact .refl s
  · split
    · exact .refl s
    · exact (State.Confined.refl s).loadF ..
  · split
    · exact (State.Confined.refl s).loadP ..
    · exact .refl s

theorem ownLoadLadder_confined : s.Confined 0 (ownLoadLadder d s).state := by
  unfold ownLoadLadder
  split
  · exact .refl s
  · dsimp only
    split
    · exact (State.Confined.refl s).pendLadder ..
    · exact .refl s

theorem ownSetRing_confined : s.Confined 0 (ownSetRing d s).state := by
  unfold ownSetRing
  split
  · exact .refl s
  · dsimp only
    split
    · exact .refl s
    · split
      · exact .refl s
      · exact (State.Confined.refl s).setRing ..

theorem ownSetLanes_confined : s.Confined 0 (ownSetLanes d s).state := by
  unfold ownSetLanes
  split
  · exact .refl s
  · split
    · exact .refl s
    · exact (State.Confined.refl s).withPrs _

theorem ownSetLaneBFeed_confined : s.Confined 0 (ownSetLaneBFeed d s).state := by
  unfold ownSetLaneBFeed
  split
  · exact (State.Confined.refl s).withPrs _
  · exact .refl s
  · exact .refl s

theorem ownSetTrigger_confined : s.Confined 0 (ownSetTrigger d s).state := by
  unfold ownSetTrigger
  split
  · exact (State.Confined.refl s).withPrs _
  · exact .refl s

theorem ownSetTimecode_confined : s.Confined 0 (ownSetTimecode d s).state := by
  unfold ownSetTimecode
  dsimp only
  split
  · exact .refl s
  · split
    · exact .refl s
    · split
      · exact .refl s
      · split
        · exact (State.Confined.refl s).withTcu (by exact id)
        · split
          · exact .refl s
          · exact State.Confined.withTcu (State.Confined.refl s).takeRefLoss (by exact id)

theorem ownJam_confined : s.Confined 0 (ownJam d s).state := by
  unfold ownJam
  dsimp only
  split
  · exact .refl s
  · split
    · exact .refl s
    · split
      · exact (State.Confined.refl s).withTcu (by exact id)
      · exact (State.Confined.refl s).withTcu (by exact id)

/-- ARM holds Pmax to 1,024 (R135). -/
theorem ownArm_confined : s.Confined 0 (ownArm d s).state := by
  refine (State.Confined.refl s).withTkc rfl ?_
  exact fun ⟨_, hnext⟩ => ⟨Nat.min_le_right .., hnext⟩

theorem ownDisarm_confined : s.Confined 0 (ownDisarm d s).state := by
  unfold ownDisarm
  split
  · exact .refl s
  · exact (State.Confined.refl s).withTkc (by rfl) (by exact id)
  · exact (State.Confined.refl s).withTkc (by rfl) (by exact id)

theorem ownStart_confined : s.Confined 0 (ownStart d s).state := by
  unfold ownStart
  split
  · exact .refl s
  · exact (State.Confined.refl s).startTake _
  · exact (State.Confined.refl s).startTake _

theorem ownStop_confined : s.Confined 0 (ownStop d s).state := by
  unfold ownStop
  split
  · exact .refl s
  · exact .refl s
  · split
    · exact .refl s
    · exact (State.Confined.refl s).leaveOpen ..

theorem ownMark_confined : s.Confined 0 (ownMark d s).state := by
  unfold ownMark
  split
  · exact .refl s
  · split
    · exact .refl s
    · split
      · exact (State.Confined.refl s).editTake ..
      · exact State.Confined.withTkc ((State.Confined.refl s).editTake ..) (by rfl) (by exact id)

theorem ownReadTake_confined : s.Confined 0 (ownReadTake d s).state := by
  unfold ownReadTake
  split <;> exact .refl s

theorem ownClearTakes_confined : s.Confined 0 (ownClearTakes d s).state :=
  (State.Confined.refl s).withTkc (by rfl) (by exact id)

/-- A QUERY with the clear option sets counters to 0, none of them among the bounded counts (R189). -/
theorem ownQuery_confined : s.Confined 0 (ownQuery d s).state := by
  have hclear : ∀ g, s.Confined 0 (s.clearGroup g) := by
    intro g
    cases g with
    | lanes => exact { State.Confined.refl s with lsA := ⟨id, id⟩, lsB := ⟨id, id⟩ }
    | _ => exact { State.Confined.refl s with }
  unfold ownQuery
  split
  · exact .refl s
  · dsimp only
    split
    · exact hclear _
    · exact .refl s

end owners

/-! ## The commands -/

/-- No command that opens no picture and places no tile lengthens the Tile FIFO. -/
theorem exec_bounded (c : Instr) (s : State) : ∃ t, exec c s = .next t ∧ s.Bounded t := by
  have hs := State.Confined.refl s
  have howner : ∀ {k : DirKind} {owner : Directive → State → Taken},
      (∀ d t, State.Confined 0 t (owner d t).state) → s.Bounded (s.execute k owner) :=
    fun howner => (State.Confined.execute howner s).bounded
  cases c with
  | resetLine trigHigh => exact ⟨_, rfl, (s.afterResetLine_within trigHigh).bounded⟩
  | headerFailure => exact ⟨_, rfl, hs.headerFailure.bounded⟩
  | badPacket cause => cases cause <;> exact ⟨_, rfl, (hs.goodHeader.countTi _).bounded⟩
  | openPacket linkSeq seqCopy w h => exact ⟨_, rfl, State.takeOpen_bounded ..⟩
  | tilePacket linkSeq position bytes => exact ⟨_, rfl, State.takeTile_bounded ..⟩
  | closePacket linkSeq count => exact ⟨_, rfl, (hs.takeClose ..).bounded⟩
  | directivePacket classByte code tag args =>
    refine ⟨_, rfl, ?_⟩
    unfold State.directivePacket
    split
    · exact (hs.goodHeader.receiveDirective _).bounded
    · exact (hs.goodHeader.countTi _).bounded
  | fillPacket => exact ⟨_, rfl, hs.goodHeader.bounded⟩
  | refPulse => exact ⟨_, rfl, hs.refPulse.bounded⟩
  | refLost => exact ⟨_, rfl, hs.takeRefLoss.bounded⟩
  | trigEdge rising => exact ⟨_, rfl, (hs.trigEdge rising).bounded⟩
  | creditPulse lane => exact ⟨_, rfl, (hs.creditPulse lane).bounded⟩
  | laneStall lane => exact ⟨_, rfl, (hs.takeStall lane).bounded⟩
  | lanePacketSent lane => exact ⟨_, rfl, (hs.packetSent lane).bounded⟩
  | arbiterChoice => exact ⟨_, rfl, hs.arbiterChoice.bounded⟩
  | handOver => exact ⟨_, rfl, hs.handOver.bounded⟩
  | codeTile => exact ⟨_, rfl, hs.codeTile.bounded⟩
  | passByEntry => exact ⟨_, rfl, hs.passByEntry.bounded⟩
  | passByRow => exact ⟨_, rfl, hs.passByRow.bounded⟩
  | loadProfile => exact ⟨_, rfl, howner ownLoadProfile_confined⟩
  | loadLadder => exact ⟨_, rfl, howner ownLoadLadder_confined⟩
  | setRing => exact ⟨_, rfl, howner ownSetRing_confined⟩
  | setLanes => exact ⟨_, rfl, howner ownSetLanes_confined⟩
  | setLaneBFeed => exact ⟨_, rfl, howner ownSetLaneBFeed_confined⟩
  | setTrigger => exact ⟨_, rfl, howner ownSetTrigger_confined⟩
  | setTimecode => exact ⟨_, rfl, howner ownSetTimecode_confined⟩
  | jam => exact ⟨_, rfl, howner ownJam_confined⟩
  | arm => exact ⟨_, rfl, howner ownArm_confined⟩
  | disarm => exact ⟨_, rfl, howner ownDisarm_confined⟩
  | start => exact ⟨_, rfl, howner ownStart_confined⟩
  | stop => exact ⟨_, rfl, howner ownStop_confined⟩
  | mark => exact ⟨_, rfl, howner ownMark_confined⟩
  | query => exact ⟨_, rfl, howner ownQuery_confined⟩
  | readTake => exact ⟨_, rfl, howner ownReadTake_confined⟩
  | clearTakes => exact ⟨_, rfl, howner ownClearTakes_confined⟩
  | restart => exact ⟨_, rfl, hs.restartDirective.bounded⟩
  | reset => exact ⟨_, rfl, (execReset_within s).bounded⟩
  | unknownDirective =>
    simp only [exec, execUnknownDirective]
    split
    · exact ⟨_, rfl, hs.bounded⟩
    · split
      · exact ⟨_, rfl, hs.bounded⟩
      · exact ⟨_, rfl, (hs.answer ..).bounded⟩

theorem step_bounded {s t : State} (h : step s = .next t) : s.Bounded t := by
  unfold step at h
  split at h
  · cases h
    exact ⟨id, id⟩
  · next c rest _ =>
    have hqueue : s.Bounded { s with pending := rest } := ⟨id, id⟩
    obtain ⟨u, hu, hbounded⟩ := exec_bounded c { s with pending := rest }
    cases hu.symm.trans h
    exact hqueue.trans hbounded

/-- Settles O9: every operation keeps each block within its bounds on its own, and the checks of R25 and R30 leave the
room that a picture open, a tile and a truncation take in the Tile FIFO. -/
theorem queuesAndCountsStayBounded : Obligations.QueuesAndCountsStayBounded :=
  ⟨fun _ _ hs h => (step_bounded h).1 hs, fun _ _ hs h => (step_bounded h).2 hs⟩

end Sys2Proof.Machine
end

section
/-! The Tile Intake by packet: what a header failure and a packet that opens no picture leave of the TI (R19 to R23,
R32, R34, R37). -/

namespace Sys2Proof.Machine

theorem State.goodHeader_eq (s : State) : s.goodHeader = { s with ti := s.ti.locked } := rfl

/-! ## Sorting by link sequence (R23) -/

@[simp] theorem Ti.locked_status (t : Ti) : t.locked.status = t.status := rfl

@[simp] theorem Ti.sort_locked (t : Ti) (q : BitVec 16) : t.locked.sort q = t.sort q := rfl

theorem Ti.sort_of_current {t : Ti} {q : BitVec 16} (hidle : t.status ≠ .idle) (hq : q = t.linkSeq) :
    t.sort q = .current := by
  simp [Ti.sort, hidle, hq]

theorem Ti.sort_of_previous {t : Ti} {q : BitVec 16} (hidle : t.status ≠ .idle) (hq : q = t.linkSeq - 1) :
    t.sort q = .stale := by
  simp [Ti.sort, hidle, hq]

theorem Ti.sort_ne_current {t : Ti} {q : BitVec 16} (h : t.status = .idle ∨ q ≠ t.linkSeq) : t.sort q ≠ .current := by
  obtain hidle | hq := h
  · simp [Ti.sort, hidle]
  · simp only [Ti.sort, if_neg hq]
    split
    · simp
    · split <;> simp

theorem Ti.sort_of_new {t : Ti} {q : BitVec 16} (h : t.status = .idle ∨ (q ≠ t.linkSeq ∧ q ≠ t.linkSeq - 1)) :
    t.sort q = .fresh := by
  obtain hidle | ⟨hcurrent, hprevious⟩ := h
  · simp [Ti.sort, hidle]
  · simp only [Ti.sort, if_neg hcurrent, if_neg hprevious, ite_self]

/-! ## Header failures, discarded packets and FILL (R19 to R22) -/

theorem State.headerFailure_of_hunt {s : State} (h : s.ti.link = .hunt) : s.headerFailure = s := by
  simp [State.headerFailure, h]

theorem State.headerFailure_of_kept_lock {s : State} (h : s.ti.link = .locked) (hfails : s.ti.fails < 2) :
    s.headerFailure = { s with ti := { s.ti with
      fails := s.ti.fails + 1
      counters := { s.ti.counters with headerFailures := bump s.ti.counters.headerFailures } } } := by
  have hthird : s.ti.fails + 1 < 3 := by omega
  simp [State.headerFailure, State.countTi, h, hthird]

theorem State.headerFailure_of_lost_lock {s : State} (h : s.ti.link = .locked) (hfails : 2 ≤ s.ti.fails) :
    s.headerFailure = { s with ti := { s.ti with
      link := .hunt
      fails := 0
      counters := { s.ti.counters with
        headerFailures := bump s.ti.counters.headerFailures
        lockLosses := bump s.ti.counters.lockLosses } } } := by
  have hthird : ¬ s.ti.fails + 1 < 3 := by omega
  simp [State.headerFailure, State.countTi, h, hthird]

/-- Settles O14: the header failure by link state and number of failures; the discarded packets and FILL by the
equation of each. -/
theorem linkFailuresAndDiscardsOnlyCount : Obligations.LinkFailuresAndDiscardsOnlyCount :=
  ⟨fun _ => ⟨fun hhunt => congrArg Host.Outcome.next (State.headerFailure_of_hunt hhunt),
      fun hlocked hfails => congrArg Host.Outcome.next (State.headerFailure_of_kept_lock hlocked hfails),
      fun hlocked hfails => congrArg Host.Outcome.next (State.headerFailure_of_lost_lock hlocked hfails)⟩,
    fun _ => ⟨rfl, rfl, rfl⟩⟩

/-! ## The picture packets by their link sequence (R23) -/

theorem State.takeOpen_of_other_copy (s : State) {q c : BitVec 16} (w h : BitVec 16) (hc : c ≠ q) :
    s.takeOpen q c w h = s.goodHeader.formatError := by
  simp [State.takeOpen, hc]

theorem State.takeOpen_of_fresh {s : State} {q : BitVec 16} (w h : BitVec 16) (hq : s.ti.sort q = .fresh) :
    s.takeOpen q q w h = s.goodHeader.openPicture q (some (w.toNat, h.toNat)) false := by
  simp [State.takeOpen, State.goodHeader_eq, hq]

theorem State.takeOpen_of_current {s : State} {q : BitVec 16} (w h : BitVec 16) (hq : s.ti.sort q = .current) :
    s.takeOpen q q w h = s.goodHeader.countTi fun c => { c with duplicateOpens := bump c.duplicateOpens } := by
  simp [State.takeOpen, State.goodHeader_eq, hq]

theorem State.takeOpen_of_stale {s : State} {q : BitVec 16} (w h : BitVec 16) (hq : s.ti.sort q = .stale) :
    s.takeOpen q q w h = s.goodHeader.stalePacket := by
  simp [State.takeOpen, State.goodHeader_eq, hq]

theorem State.takeTile_of_fresh {s : State} {q : BitVec 16} (position : BitVec 16) {bytes : List Byte}
    (hbytes : bytes.length = 1280) (hq : s.ti.sort q = .fresh) :
    s.takeTile q position bytes =
      ((s.goodHeader.countTi fun c => { c with impliedOpens := bump c.impliedOpens }).openPicture q none true).currentTile
        position.toNat (unpackSamples bytes) := by
  simp [State.takeTile, State.goodHeader_eq, hbytes, hq]

theorem State.takeTile_of_current {s : State} {q : BitVec 16} (position : BitVec 16) {bytes : List Byte}
    (hbytes : bytes.length = 1280) (hq : s.ti.sort q = .current) :
    s.takeTile q position bytes = s.goodHeader.currentTile position.toNat (unpackSamples bytes) := by
  simp [State.takeTile, State.goodHeader_eq, hbytes, hq]

theorem State.takeTile_of_stale {s : State} {q : BitVec 16} (position : BitVec 16) {bytes : List Byte}
    (hbytes : bytes.length = 1280) (hq : s.ti.sort q = .stale) :
    s.takeTile q position bytes = s.goodHeader.stalePacket := by
  simp [State.takeTile, State.goodHeader_eq, hbytes, hq]

theorem State.takeClose_of_not_current {s : State} {q : BitVec 16} (count : BitVec 16) (hq : s.ti.sort q ≠ .current) :
    s.takeClose q count = s.goodHeader.unmatchedClose := by
  cases hsort : s.ti.sort q with
  | fresh => simp [State.takeClose, State.goodHeader_eq, hsort]
  | current => exact absurd hsort hq
  | stale => simp [State.takeClose, State.goodHeader_eq, hsort]

theorem State.takeClose_of_compared {s : State} {q : BitVec 16} (count : BitVec 16) (hq : q = s.ti.linkSeq)
    (hstatus : s.ti.status = .opened ∨ s.ti.status = .ended) :
    s.takeClose q count = s.goodHeader.compareClose count.toNat := by
  have hidle : s.ti.status ≠ .idle := by rintro h; simp [h] at hstatus
  have hsort := Ti.sort_of_current hidle hq
  obtain h | h := hstatus
  · simp [State.takeClose, State.goodHeader_eq, hsort, h]
  · simp [State.takeClose, State.goodHeader_eq, hsort, h]

theorem State.takeClose_of_dropping {s : State} {q : BitVec 16} (count : BitVec 16) (hq : q = s.ti.linkSeq)
    (hstatus : s.ti.status = .dropping) : s.takeClose q count = s.goodHeader := by
  have hidle : s.ti.status ≠ .idle := by simp [hstatus]
  simp [State.takeClose, State.goodHeader_eq, Ti.sort_of_current hidle hq, hstatus]

/-- Settles O16: by what the link sequence sorts the packet to. -/
theorem unwantedPicturePacketsOnlyCount : Obligations.UnwantedPicturePacketsOnlyCount := by
  intro s q w h count position bytes hbytes
  refine ⟨fun hidle hq => ?_, fun hidle hq => ⟨?_, ?_⟩, fun hq => ?_, fun c hc => ?_⟩
  · exact congrArg Host.Outcome.next (State.takeOpen_of_current w h (Ti.sort_of_current hidle hq))
  · exact congrArg Host.Outcome.next (State.takeOpen_of_stale w h (Ti.sort_of_previous hidle hq))
  · exact congrArg Host.Outcome.next (State.takeTile_of_stale position hbytes (Ti.sort_of_previous hidle hq))
  · exact congrArg Host.Outcome.next (State.takeClose_of_not_current count (Ti.sort_ne_current hq))
  · exact congrArg Host.Outcome.next (State.takeOpen_of_other_copy s w h hc)

/-! ## Tiles of an ENDED or DROPPING picture (R34) -/

theorem State.currentTile_of_ended {s : State} {position : Nat} (samples : List Sample) (hstatus : s.ti.status = .ended)
    (hposition : position < s.ti.tiles) :
    s.currentTile position samples =
      s.countReceived.countTi fun c => { c with duplicateTiles := bump c.duplicateTiles } := by
  simp [State.currentTile, hstatus, Nat.not_le.2 hposition]

theorem State.currentTile_of_ended_past_end {s : State} {position : Nat} (samples : List Sample)
    (hstatus : s.ti.status = .ended) (hposition : s.ti.tiles ≤ position) :
    s.currentTile position samples = s.formatError := by
  simp [State.currentTile, hstatus, hposition]

theorem State.currentTile_of_dropping {s : State} (position : Nat) (samples : List Sample)
    (hstatus : s.ti.status = .dropping) :
    s.currentTile position samples = s.countTi fun c => { c with droppedTiles := bump c.droppedTiles } := by
  simp [State.currentTile, hstatus]

theorem State.takeTile_of_linkSeq {s : State} {q : BitVec 16} (position : BitVec 16) {bytes : List Byte}
    (hbytes : bytes.length = 1280) (hq : q = s.ti.linkSeq) (hidle : s.ti.status ≠ .idle) :
    s.takeTile q position bytes = s.goodHeader.currentTile position.toNat (unpackSamples bytes) :=
  State.takeTile_of_current position hbytes (Ti.sort_of_current hidle hq)

/-- Settles O21: by the status of the current picture. -/
theorem lateAndDroppedTilesOnlyCount : Obligations.LateAndDroppedTilesOnlyCount := by
  intro s q position bytes hbytes hq
  refine ⟨fun hstatus hposition => congrArg Host.Outcome.next ?_,
    fun hstatus hposition => congrArg Host.Outcome.next ?_, fun hstatus => congrArg Host.Outcome.next ?_⟩
  · exact (State.takeTile_of_linkSeq position hbytes hq (by simp [hstatus])).trans
      (State.currentTile_of_ended _ hstatus hposition)
  · exact (State.takeTile_of_linkSeq position hbytes hq (by simp [hstatus])).trans
      (State.currentTile_of_ended_past_end _ hstatus hposition)
  · exact (State.takeTile_of_linkSeq position hbytes hq (by simp [hstatus])).trans
      (State.currentTile_of_dropping _ _ hstatus)

/-! ## CLOSE of the current picture (R37) -/

theorem modifyRecord_eq (source : Nat) (f : PicRecord → PicRecord) (table : List PicRecord) :
    modifyRecord source f table = table.map fun r => if r.source = source then f r else r := by
  simp [modifyRecord]

theorem State.compareClose_of_differs {s : State} {count : Nat} (h : count ≠ s.ti.received) :
    s.compareClose count = { s with ti := { s.ti with
      table := s.ti.table.map fun r => if r.source = s.ti.source then { r with concealed := true } else r
      counters := { s.ti.counters with closeMismatches := bump s.ti.counters.closeMismatches } } } := by
  simp [State.compareClose, State.editRecord, State.countTi, modifyRecord_eq, h]

/-- Settles O22: by the status of the current picture and by the count. -/
theorem closeComparesTheTileCount : Obligations.CloseComparesTheTileCount := by
  intro s q count hq
  refine ⟨fun hstatus hcount => congrArg Host.Outcome.next ?_,
    fun hstatus hcount => congrArg Host.Outcome.next ?_, fun hstatus => congrArg Host.Outcome.next ?_⟩
  · exact (State.takeClose_of_compared count hq hstatus).trans (if_pos hcount)
  · exact (State.takeClose_of_compared count hq hstatus).trans (State.compareClose_of_differs hcount)
  · exact State.takeClose_of_dropping count hq hstatus

end Sys2Proof.Machine
end

section
/-! The bytes of a Tile Link packet read back: the numbers in them, the header, the payload and the two checks (R19 to
R22, R192, R193). -/

namespace Sys2Proof.Machine

/-! ## Numbers in byte strings -/

@[simp] theorem be_length (n v : Nat) : (be n v).length = n := by
  induction n with
  | zero => rfl
  | succ n ih => simp [be, ih]

theorem foldl_bytes (bytes : List Byte) (v : Nat) :
    bytes.foldl (fun v b => v * 256 + b.toNat) v = v * 256 ^ bytes.length + beValue bytes := by
  induction bytes generalizing v with
  | nil => simp [beValue]
  | cons b rest ih =>
    have hcons : beValue (b :: rest) = (0 * 256 + b.toNat) * 256 ^ rest.length + beValue rest := ih _
    rw [List.foldl_cons, ih, hcons, List.length_cons, pow_succ]
    ring

theorem beValue_cons (b : Byte) (rest : List Byte) :
    beValue (b :: rest) = b.toNat * 256 ^ rest.length + beValue rest := by
  simpa [beValue] using foldl_bytes rest (0 * 256 + b.toNat)

theorem beValue_be (n v : Nat) : beValue (be n v) = v % 256 ^ n := by
  induction n with
  | zero => simp [be, beValue, Nat.mod_one]
  | succ n ih =>
    rw [be, beValue_cons, be_length, ih, BitVec.toNat_ofNat, Nat.mod_pow_succ (b := 256) (k := n)]
    ring

/-- Where a number of `n` bytes stands in a byte string, it is the field there. -/
theorem fieldAt_be {front : List Byte} {off n v : Nat} (hoff : front.length = off) (hv : v < 256 ^ n)
    (back : List Byte) : fieldAt (front ++ (be n v ++ back)) off n = v := by
  rw [fieldAt, List.drop_left' hoff, List.take_left' (be_length n v), beValue_be, Nat.mod_eq_of_lt hv]

theorem fieldAt_append_left {front : List Byte} {off n : Nat} (h : off + n ≤ front.length) (back : List Byte) :
    fieldAt (front ++ back) off n = fieldAt front off n := by
  have hdrop : off ≤ front.length := by omega
  have htake : n ≤ (front.drop off).length := by simp; omega
  rw [fieldAt, fieldAt, List.drop_append_of_le_length hdrop, List.take_append_of_le_length htake]

theorem fieldAt_word {front : List Byte} {off : Nat} (hoff : front.length = off) (x : BitVec 16) (back : List Byte) :
    BitVec.ofNat 16 (fieldAt (front ++ (be 2 x.toNat ++ back)) off 2) = x := by
  rw [fieldAt_be hoff x.isLt, BitVec.ofNat_toNat, BitVec.setWidth_eq]

/-! ## The framing of a packet -/

/-- The ten header bytes of a packet before their check (Table 11-1). -/
def linkHeaderBytes (kind flags : Byte) (length : Nat) (linkSeq : BitVec 16) (cls : Byte) (spare : BitVec 24) :
    List Byte :=
  [kind, flags] ++ be 2 length ++ be 2 linkSeq.toNat ++ [cls] ++ be 3 spare.toNat

theorem linkPacket_eq (kind flags : Byte) (linkSeq : BitVec 16) (cls : Byte) (spare : BitVec 24)
    (payload rest : List Byte) :
    let h := linkHeaderBytes kind flags payload.length linkSeq cls spare
    linkPacket kind flags linkSeq cls spare payload ++ rest =
      syncWord ++ ((h ++ be 2 (crc16 h).toNat) ++ (payload ++ (be 4 (crc32 payload).toNat ++ rest))) := by
  simp [linkPacket, linkHeaderBytes]

theorem goodHeaderAt_of_check {h : List Byte} (hlen : h.length = 10) (hpayload : fieldAt h 2 2 ≤ 1536)
    (rest : List Byte) :
    goodHeaderAt (syncWord ++ ((h ++ be 2 (crc16 h).toNat) ++ rest)) =
      some ⟨fieldAt h 0 1, fieldAt h 2 2, BitVec.ofNat 16 (fieldAt h 4 2), h.getD 6 0⟩ := by
  have hcheck : fieldAt (h ++ be 2 (crc16 h).toNat) 10 2 = (crc16 h).toNat := by
    simpa using fieldAt_be hlen (crc16 h).isLt []
  have hfront : ∀ {off n}, off + n ≤ 10 → fieldAt (h ++ be 2 (crc16 h).toNat) off n = fieldAt h off n :=
    fun hle => fieldAt_append_left (hlen ▸ hle) _
  have hcls : (h ++ be 2 (crc16 h).toNat).getD 6 0 = h.getD 6 0 := List.getD_append _ _ _ _ (by omega)
  have hsync : (syncWord ++ ((h ++ be 2 (crc16 h).toNat) ++ rest)).take 4 = syncWord := List.take_left' rfl
  have hheader : ((syncWord ++ ((h ++ be 2 (crc16 h).toNat) ++ rest)).drop 4).take 12 =
      h ++ be 2 (crc16 h).toNat := by
    rw [List.drop_left' (show syncWord.length = 4 from rfl), List.take_left' (by simp [hlen])]
  have hten : (h ++ be 2 (crc16 h).toNat).take 10 = h := List.take_left' hlen
  simp only [goodHeaderAt, hheader, hsync, hten, hcheck, hfront (by omega : 0 + 1 ≤ 10),
    hfront (by omega : 2 + 2 ≤ 10), hfront (by omega : 4 + 2 ≤ 10), hcls]
  simp [hlen, hpayload]

theorem goodHeaderAt_linkPacket (kind flags : Byte) (linkSeq : BitVec 16) (cls : Byte) (spare : BitVec 24)
    {payload : List Byte} (hpayload : payload.length ≤ 1536) (rest : List Byte) :
    goodHeaderAt (linkPacket kind flags linkSeq cls spare payload ++ rest) =
      some ⟨kind.toNat, payload.length, linkSeq, cls⟩ := by
  have hkind : fieldAt (linkHeaderBytes kind flags payload.length linkSeq cls spare) 0 1 = kind.toNat := by
    simp [linkHeaderBytes, fieldAt, beValue]
  have hlength : fieldAt (linkHeaderBytes kind flags payload.length linkSeq cls spare) 2 2 = payload.length := by
    simpa [linkHeaderBytes] using fieldAt_be (front := [kind, flags]) rfl (by omega : payload.length < 256 ^ 2)
      (be 2 linkSeq.toNat ++ [cls] ++ be 3 spare.toNat)
  have hseq : BitVec.ofNat 16 (fieldAt (linkHeaderBytes kind flags payload.length linkSeq cls spare) 4 2) =
      linkSeq := by
    simpa [linkHeaderBytes] using fieldAt_word (front := [kind, flags] ++ be 2 payload.length) (by simp) linkSeq
      ([cls] ++ be 3 spare.toNat)
  have hcls : (linkHeaderBytes kind flags payload.length linkSeq cls spare).getD 6 0 = cls := by
    simp [linkHeaderBytes, be]
  rw [linkPacket_eq, goodHeaderAt_of_check (by simp [linkHeaderBytes]) (hlength.le.trans hpayload), hkind, hlength, hseq, hcls]

/-- A packet whose checks pass gives the command of its header and payload, and the scan goes on behind it. -/
theorem scan_linkPacket (kind flags : Byte) (linkSeq : BitVec 16) (cls : Byte) (spare : BitVec 24)
    {payload : List Byte} (hpayload : payload.length ≤ 1536) (rest : List Byte) (mode : LinkMode) (fails k : Nat) :
    Link.scan (k + 1) mode fails (linkPacket kind flags linkSeq cls spare payload ++ rest) =
      packetCommand ⟨kind.toNat, payload.length, linkSeq, cls⟩ payload :: Link.scan k .expect 0 rest := by
  have hheader := goodHeaderAt_linkPacket kind flags linkSeq cls spare hpayload rest
  obtain ⟨front, hfront, hbytes⟩ : ∃ front : List Byte, front.length = 16 ∧
      linkPacket kind flags linkSeq cls spare payload ++ rest =
        front ++ (payload ++ (be 4 (crc32 payload).toNat ++ rest)) :=
    ⟨syncWord ++ (linkHeaderBytes kind flags payload.length linkSeq cls spare ++ be 2 _),
      by simp [linkHeaderBytes, syncWord], by rw [linkPacket_eq, List.append_assoc syncWord]⟩
  rw [hbytes] at hheader ⊢
  have hread : (front ++ (payload ++ (be 4 (crc32 payload).toNat ++ rest))).drop (16 + payload.length) =
      be 4 (crc32 payload).toNat ++ rest := by
    rw [← List.append_assoc, List.drop_left' (by simp [hfront])]
  have hrest : (front ++ (payload ++ (be 4 (crc32 payload).toNat ++ rest))).drop (20 + payload.length) = rest := by
    rw [← List.append_assoc, ← List.append_assoc, List.drop_left' (by simp [hfront]; omega)]
  have hcrc : beValue (be 4 (crc32 payload).toNat) = (crc32 payload).toNat :=
    (beValue_be ..).trans (Nat.mod_eq_of_lt (crc32 payload).isLt)
  have hlong : ¬ (front ++ (payload ++ (be 4 (crc32 payload).toNat ++ rest))).length < 20 + payload.length := by
    simp [hfront]; omega
  have hsixteen : ¬ (front ++ (payload ++ (be 4 (crc32 payload).toNat ++ rest))).length < 16 := by omega
  simp only [Link.scan, if_neg hsixteen, hheader, if_neg hlong, hread, hrest, List.drop_left' hfront,
    List.take_left' rfl, List.take_left' (be_length ..), framedCommand, if_pos hcrc]

/-! ## The packet of each command -/

theorem packetCommand_open (q w h : BitVec 16) (length : Nat) (cls : Byte) :
    packetCommand ⟨1, length, q, cls⟩ (be 2 w.toNat ++ be 2 h.toNat ++ be 2 q.toNat) = .openPacket q q w h := by
  have hw := fieldAt_word (front := []) (off := 0) rfl w (be 2 h.toNat ++ be 2 q.toNat)
  have hh := fieldAt_word (be_length 2 w.toNat) h (be 2 q.toNat)
  have hq := fieldAt_word (front := be 2 w.toNat ++ be 2 h.toNat) (off := 4) (by simp) q []
  simp only [List.nil_append, List.append_nil, List.append_assoc] at hw hh hq
  simp [packetCommand, hw, hh, hq]

theorem packetCommand_tile (q position : BitVec 16) {bytes : List Byte} (hbytes : bytes.length = 1280) (length : Nat)
    (cls : Byte) :
    packetCommand ⟨2, length, q, cls⟩ (be 2 position.toNat ++ bytes) = .tilePacket q position bytes := by
  have hposition : BitVec.ofNat 16 (fieldAt (be 2 position.toNat ++ bytes) 0 2) = position :=
    fieldAt_word (front := []) rfl position bytes
  simp [packetCommand, hposition, hbytes, List.drop_left' (be_length 2 position.toNat)]

theorem packetCommand_close (q count : BitVec 16) (length : Nat) (cls : Byte) :
    packetCommand ⟨3, length, q, cls⟩ (be 2 count.toNat) = .closePacket q count := by
  have hcount : BitVec.ofNat 16 (fieldAt (be 2 count.toNat) 0 2) = count := by
    simpa using fieldAt_word (front := []) rfl count []
  simp [packetCommand, hcount]

theorem packetCommand_directive (x code tag : Byte) (args : List Byte) (hcls : (classOf x.toNat).isSome = true)
    (length : Nat) (q : BitVec 16) :
    packetCommand ⟨4, length, q, x⟩ (code :: tag :: args) = .directivePacket x code tag args := by
  obtain ⟨cls, hcls⟩ := Option.isSome_iff_exists.1 hcls
  simp [packetCommand, hcls]

/-- Settles O12: the packet of each kind is framed by one lemma, and its command is read from the payload. -/
theorem packetBytesGiveTheirCommand : Obligations.PacketBytesGiveTheirCommand := by
  intro c flags cls spare seq filler bytes rest mode fails k hwf hfiller hbytes hcopy hclass
  cases c with
  | openPacket q copy w h =>
    cases hcopy _ _ _ _ rfl
    cases hbytes
    rw [scan_linkPacket _ _ _ _ _ (by simp)]
    exact congrArg (· :: _) (packetCommand_open ..)
  | tilePacket q position samples =>
    have hsamples : samples.length = 1280 := by simpa [Instr.wellFormed] using hwf
    cases hbytes
    rw [scan_linkPacket _ _ _ _ _ (by simp [hsamples])]
    exact congrArg (· :: _) (packetCommand_tile _ _ hsamples _ _)
  | closePacket q count =>
    cases hbytes
    rw [scan_linkPacket _ _ _ _ _ (by simp)]
    exact congrArg (· :: _) (packetCommand_close ..)
  | directivePacket x code tag args =>
    have hargs : args.length ≤ 1534 := by simpa [Instr.wellFormed] using hwf
    cases hbytes
    rw [scan_linkPacket _ _ _ _ _ (by simp; omega)]
    exact congrArg (· :: _) (packetCommand_directive _ _ _ _ (hclass _ _ _ _ rfl) _ _)
  | fillPacket =>
    cases hbytes
    rw [scan_linkPacket _ _ _ _ _ hfiller]
    rfl
  | _ => cases hbytes

end Sys2Proof.Machine
end

section
/-! What the PS, the TCU, the FSC, the TKC and the lanes leave of the TI when it appends an entry and when a picture
opens: everything but the take, the proxy state and the record-run stamp of records, and the records whose F state is
finished (R28, R29, R31). -/

namespace Sys2Proof.Machine

/-! ## The TI beside its table, and what the TI wrote in a record -/

/-- The TI without its Picture Table. -/
def Ti.noTable (t : Ti) : Ti := { t with table := [] }

/-- The part of a record that the TI and stream F write: number, free-run stamp, marks and flags, F state. -/
def PicRecord.intake (r : PicRecord) : PicRecord :=
  { r with rrStamp := none, take := none, proxySelected := false, pState := none }

/-- From `s` to `t` the TI beside its table stays, and so do the records whose F state is not finished, in what
the TI and stream F wrote in them. -/
structure State.TiKept (s t : State) : Prop where
  noTable : t.ti.noTable = s.ti.noTable
  held : ∀ r ∈ s.ti.table, r.fState.finished = false → ∃ q ∈ t.ti.table, q.intake = r.intake
  found : ∀ n r, s.record n = some r → r.fState.finished = false → ∃ q, t.record n = some q ∧ q.intake = r.intake

theorem PicRecord.finished_of_intake {q r : PicRecord} (h : q.intake = r.intake) (hr : r.fState.finished = false) :
    q.fState.finished = false := by
  have hstate : q.intake.fState = r.intake.fState := congrArg PicRecord.fState h
  exact (congrArg StreamState.finished hstate).trans hr

theorem PicRecord.endEntry_of_intake {q r : PicRecord} (h : q.intake = r.intake) : q.endEntry = r.endEntry := by
  have hend : q.intake.endEntry = r.intake.endEntry := congrArg PicRecord.endEntry h
  exact hend

theorem State.record_source {s : State} {n : Nat} {r : PicRecord} (h : s.record n = some r) : r.source = n := by
  simpa using List.find?_some h

namespace State.TiKept

theorem of_ti {s t : State} (h : t.ti = s.ti) : s.TiKept t where
  noTable := congrArg Ti.noTable h
  held r hr _ := ⟨r, h ▸ hr, rfl⟩
  found n r hr _ := ⟨r, by rw [State.record, h]; exact hr, rfl⟩


theorem trans {s t u : State} (h : s.TiKept t) (g : t.TiKept u) : s.TiKept u where
  noTable := g.noTable.trans h.noTable
  held r hr hopen := by
    obtain ⟨q, hq, hqr⟩ := h.held r hr hopen
    obtain ⟨p, hp, hpq⟩ := g.held q hq (PicRecord.finished_of_intake hqr hopen)
    exact ⟨p, hp, hpq.trans hqr⟩
  found n r hr hopen := by
    obtain ⟨q, hq, hqr⟩ := h.found n r hr hopen
    obtain ⟨p, hp, hpq⟩ := g.found n q hq (PicRecord.finished_of_intake hqr hopen)
    exact ⟨p, hp, hpq.trans hqr⟩

theorem withTi {s t u : State} (h : s.TiKept t) (hu : u.ti = t.ti) : s.TiKept u := h.trans (of_ti hu)

end State.TiKept

theorem modifyRecord_mem {table : List PicRecord} {r : PicRecord} (hr : r ∈ table) (n : Nat)
    (f : PicRecord → PicRecord) : (if r.source = n then f r else r) ∈ modifyRecord n f table := by
  rw [modifyRecord_eq]
  exact List.mem_map_of_mem hr

theorem State.record_editRecord {s : State} {n m : Nat} {r : PicRecord} {f : PicRecord → PicRecord}
    (hf : ∀ x, (f x).source = x.source) (hr : s.record n = some r) :
    (s.editRecord m f).record n = some (if r.source = m then f r else r) := by
  have hsource : ∀ x : PicRecord, (if x.source = m then f x else x).source = x.source := by
    intro x
    split
    · exact hf x
    · rfl
  have htest : ((fun x : PicRecord => x.source == n) ∘ fun x => if x.source = m then f x else x) =
      fun x => x.source == n := by
    funext x
    simp [hsource x]
  rw [State.record, State.editRecord, modifyRecord_eq, List.find?_map, htest, ← State.record, hr]
  rfl

theorem State.record_removeFinished {s : State} {n : Nat} {r : PicRecord} (m : Nat) (hr : s.record n = some r)
    (hopen : r.fState.finished = false) : (s.removeFinished m).record n = some r := by
  obtain ⟨hsource, before, after, htable, hbefore⟩ := List.find?_eq_some_iff_append.1 hr
  have hstays : (!(r.source == m && r.finished)) = true := by simp [PicRecord.finished, hopen]
  refine List.find?_eq_some_iff_append.2 ⟨hsource, before.filter fun x => !(x.source == m && x.finished),
    after.filter fun x => !(x.source == m && x.finished), ?_, fun x hx => hbefore x (List.mem_of_mem_filter hx)⟩
  simp only [State.removeFinished, htable, List.filter_append, List.filter_cons, if_pos hstays]

namespace State.TiKept

variable {s t : State}

theorem editRecord (h : s.TiKept t) (n : Nat) {f : PicRecord → PicRecord} (hf : ∀ r, (f r).intake = r.intake) :
    s.TiKept (t.editRecord n f) := by
  have hsame : ∀ r : PicRecord, (if r.source = n then f r else r).intake = r.intake := by
    intro r
    split
    · exact hf r
    · rfl
  refine h.trans ⟨rfl, fun r hr _ => ⟨_, modifyRecord_mem hr n f, hsame r⟩, fun m r hr _ => ⟨_, ?_, hsame r⟩⟩
  refine State.record_editRecord (fun x => ?_) hr
  have hsource : (f x).intake.source = x.intake.source := congrArg PicRecord.source (hf x)
  exact hsource

theorem removeFinished (h : s.TiKept t) (n : Nat) : s.TiKept (t.removeFinished n) := by
  refine h.trans ⟨rfl, fun r hr hopen => ⟨r, ?_, rfl⟩, fun m r hr hopen => ⟨r, ?_, rfl⟩⟩
  · exact List.mem_filter.2 ⟨hr, by simp [PicRecord.finished, hopen]⟩
  · exact State.record_removeFinished n hr hopen

theorem notify (h : s.TiKept t) (n : Notice) : s.TiKept (t.notify n) := h.withTi (by simp)

theorem testClosing (h : s.TiKept t) : s.TiKept t.testClosing := h.withTi (by simp)

theorem addGap (h : s.TiKept t) (n : Nat) : s.TiKept (t.addGap n) := h.withTi (by simp)

theorem addProxyGap (h : s.TiKept t) : s.TiKept t.addProxyGap := h.withTi (by simp)

theorem finish_proxy (h : s.TiKept t) (source : Nat) (x : StreamState) : s.TiKept (t.finish .p source x) := by
  have hstate : s.TiKept (t.editRecord source fun r => r.withState .p x) := h.editRecord _ fun _ => rfl
  unfold State.finish
  split
  · exact h
  · dsimp only
    split
    · exact hstate.removeFinished _
    · split
      · exact ((hstate.addGap _).removeFinished _).testClosing
      · exact (hstate.removeFinished _).testClosing

theorem loseProxy (h : s.TiKept t) (source : Nat) : s.TiKept (t.loseProxy source) :=
  h.addProxyGap.finish_proxy ..

/-! ## The PS taps an entry (R46 to R53) -/

theorem abandon (h : s.TiKept t) (source row : Nat) : s.TiKept (t.abandon source row) := by
  have hps : s.TiKept (t.abandonPs source) := h.withTi (by simp)
  unfold State.abandon
  dsimp only
  split
  · exact TiKept.notify (hps.withTi (by simp)) _
  · exact (hps.loseProxy source).notify _

theorem rowComplete (h : s.TiKept t) (c : Scaled) : s.TiKept (t.rowComplete c) := by
  unfold State.rowComplete
  split
  · exact h.withTi rfl
  · exact h.abandon ..

theorem scalePosition (h : s.TiKept t) (position : Nat) (samples : Option (List Sample)) :
    s.TiKept (t.scalePosition position samples) := by
  unfold State.scalePosition
  split
  · dsimp only
    split
    · exact TiKept.rowComplete (h.withTi (by exact rfl)) _
    · exact h.withTi rfl
  all_goals exact h

theorem scaleRun (h : s.TiKept t) (first n : Nat) : s.TiKept (t.scaleRun first n) := by
  induction n generalizing t first with
  | zero => exact h
  | succ n ih => exact ih (h.scalePosition ..) _

theorem tap (h : s.TiKept t) (e : FifoEntry) : s.TiKept (t.tap e) := by
  cases e with
  | openE source => exact h
  | tileE position samples => exact h.scalePosition ..
  | runE first count => exact h.scaleRun ..
  | endE source lost cut hidden => exact h.withTi rfl

/-! ## The picture-open event (R29) -/

theorem psOpen (h : s.TiKept t) (source : Nat) (kept align : Bool) : s.TiKept (t.psOpen source kept align) := by
  have hps : ∀ p : Ps, s.TiKept { t with ps := p } := fun _ => h.withTi rfl
  simp only [State.psOpen]
  split
  · split
    · exact (hps _).editRecord _ fun _ => rfl
    · exact (hps _).addProxyGap
  · split
    · exact (hps _).editRecord _ fun _ => rfl
    · exact hps _

theorem advanceRecordRun (h : s.TiKept t) : s.TiKept t.advanceRecordRun := h.withTi (by simp)

theorem ordinaryRelease (h : s.TiKept t) (st : Stream) : s.TiKept (t.ordinaryRelease st) := h.withTi (by simp)

theorem countOpen (h : s.TiKept t) (l : LaneId) : s.TiKept (t.countOpen l) := h.withTi (by simp)

theorem tkcOpen (h : s.TiKept t) (source : Nat) (kept : Bool) : s.TiKept (t.tkcOpen source kept) := by
  have hopen : s.TiKept { t with tkc := { t.tkc with lastOpen := some source } } := h.withTi rfl
  simp only [State.tkcOpen]
  split
  · exact hopen
  · split
    · exact hopen
    · split
      · exact hopen.editRecord _ fun _ => rfl
      · refine TiKept.advanceRecordRun (TiKept.editRecord hopen _ ?_)
        exact fun _ => rfl

theorem openEvent (h : s.TiKept t) (source : Nat) (kept : Bool) : s.TiKept (t.openEvent source kept) := by
  have hps : s.TiKept ((t.tcuOpen source).psOpen source kept t.tcu.alignAwaiting) :=
    TiKept.psOpen (h.withTi (by simp)) ..
  unfold State.openEvent
  dsimp only
  refine ((TiKept.tkcOpen (TiKept.ordinaryRelease (TiKept.ordinaryRelease ?_ .f) .p) ..).countOpen .a).countOpen .b
  exact hps.withTi rfl

end State.TiKept

end Sys2Proof.Machine
end

section
/-! The TI's own state along the appending of entries, truncation, an open and a TILE (R24 to R27, R30 to R36). -/

namespace Sys2Proof.Machine

/-! ## Appending an entry and the END of the current picture (R31) -/

theorem State.appendEntry_kept (s : State) (e : FifoEntry) :
    State.TiKept { s with ti := { s.ti with fifo := s.ti.fifo ++ [e] } } (s.appendEntry e) :=
  State.TiKept.tap (State.TiKept.of_ti rfl) e

theorem State.appendEntry_noTable (s : State) (e : FifoEntry) :
    (s.appendEntry e).ti.noTable = { s.ti.noTable with fifo := s.ti.fifo ++ [e] } :=
  (s.appendEntry_kept e).noTable

/-- The END entry of the current picture. -/
def State.endOf (s : State) : FifoEntry :=
  match s.record s.ti.source with
  | some r => r.endEntry
  | none => .endE s.ti.source false false false

theorem State.appendEnd_eq (s : State) : s.appendEnd = s.appendEntry s.endOf := by
  cases h : s.record s.ti.source with
  | some r => simp only [State.appendEnd, State.endOf, h]
  | none => simp only [State.appendEnd, State.endOf, h]

theorem State.endOf_of_record {s : State} {r : PicRecord} (h : s.record s.ti.source = some r) :
    s.endOf = .endE s.ti.source r.openLost r.truncated r.concealed := by
  simp only [State.endOf, h, PicRecord.endEntry, State.record_source h]

theorem State.endOf_eq_endE (s : State) : ∃ lost cut hidden, s.endOf = .endE s.ti.source lost cut hidden := by
  cases h : s.record s.ti.source with
  | some r => exact ⟨_, _, _, State.endOf_of_record h⟩
  | none => exact ⟨false, false, false, by simp [State.endOf, h]⟩

/-- The entry appended before END does not change the flags of a record that stream F has not finished. -/
theorem State.endOf_appendEntry {s : State} {r : PicRecord} (e : FifoEntry) (h : s.record s.ti.source = some r)
    (hopen : r.fState.finished = false) :
    (s.appendEntry e).endOf = .endE s.ti.source r.openLost r.truncated r.concealed := by
  have hsource : (s.appendEntry e).ti.source = s.ti.source :=
    (congrArg Ti.source (s.appendEntry_noTable e) :)
  obtain ⟨q, hq, hqr⟩ := (s.appendEntry_kept e).found s.ti.source r h hopen
  have hend : q.endEntry = r.endEntry := PicRecord.endEntry_of_intake hqr
  simp only [State.endOf, hsource, hq, hend]
  simp only [PicRecord.endEntry, State.record_source h]

theorem State.appendEnd_noTable (s : State) (e : FifoEntry) :
    (s.appendEntry e).appendEnd.ti.noTable =
      { s.ti.noTable with fifo := s.ti.fifo ++ [e, (s.appendEntry e).endOf] } := by
  have hentry := s.appendEntry_noTable e
  have hfifo : (s.appendEntry e).ti.fifo = s.ti.fifo ++ [e] := (congrArg Ti.fifo hentry :)
  rw [State.appendEnd_eq, State.appendEntry_noTable, hentry, hfifo, List.append_assoc]
  rfl

/-! ## Truncation (R36) -/

theorem State.truncate_of_not_opened {s : State} (h : s.ti.status ≠ .opened) : s.truncate = s := if_neg h

/-- An OPEN picture cut short, before its RUN and its END: the flags of its record and the counters (R36). -/
def State.cutShort (s : State) : State :=
  ((s.editRecord s.ti.source fun r => { r with truncated := true, concealed := true }).countConcealed
    (s.ti.tiles - s.ti.expected)).countTi fun c => { c with truncations := bump c.truncations }

theorem State.truncate_of_opened {s : State} (h : s.ti.status = .opened) :
    s.truncate = (s.cutShort.appendEntry (.runE s.ti.expected (s.ti.tiles - s.ti.expected))).appendEnd := if_pos h

theorem State.record_cutShort {s : State} {r : PicRecord} (h : s.record s.ti.source = some r) :
    s.cutShort.record s.ti.source = some { r with truncated := true, concealed := true } := by
  have hcut := State.record_editRecord (m := s.ti.source)
    (f := fun r => { r with truncated := true, concealed := true }) (fun _ => rfl) h
  rwa [if_pos (State.record_source h)] at hcut

/-- Truncation appends a RUN and an END, which bears the flags of the record as it was cut, and counts (R36). -/
theorem State.truncate_ti {s : State} (h : s.ti.status = .opened) :
    ∃ e, s.truncate.ti.fifo = s.ti.fifo ++ [.runE s.ti.expected (s.ti.tiles - s.ti.expected), e] ∧
      s.truncate.ti.counters = { s.ti.counters with
        concealedPositions := addSat s.ti.counters.concealedPositions (s.ti.tiles - s.ti.expected)
        truncations := bump s.ti.counters.truncations } ∧
      s.truncate.ti.nextSource = s.ti.nextSource ∧
      ∀ r, s.record s.ti.source = some r → r.fState.finished = false →
        e = .endE s.ti.source r.openLost true true := by
  have hti := s.cutShort.appendEnd_noTable (.runE s.ti.expected (s.ti.tiles - s.ti.expected))
  rw [← State.truncate_of_opened h] at hti
  exact ⟨_, (congrArg Ti.fifo hti :), (congrArg Ti.counters hti :), (congrArg Ti.nextSource hti :),
    fun r hr hopen => State.endOf_appendEntry _ (State.record_cutShort hr) hopen⟩

theorem State.truncate_nextSource (s : State) : s.truncate.ti.nextSource = s.ti.nextSource := by
  by_cases h : s.ti.status = .opened
  · obtain ⟨e, -, -, hnext, -⟩ := State.truncate_ti h
    exact hnext
  · rw [State.truncate_of_not_opened h]

/-! ## The decision of Table 2-3 (R25) -/

section
variable {s : State} {n : Nat} {dims : Option (Nat × Nat)} {p : ProfileRec}

theorem State.keepOrDrop_of_noProfile (hp : s.prs.f.validAt n = none) : s.keepOrDrop n dims = .noProfile := by
  simp [State.keepOrDrop, hp]

theorem State.keepOrDrop_of_geometry {w h : Nat} (hp : s.prs.f.validAt n = some p)
    (hdims : geometryDiffers dims p = some (w, h)) : s.keepOrDrop n dims = .geometry w h := by
  simp [State.keepOrDrop, hp, hdims]

theorem State.keepOrDrop_of_tableFull (hp : s.prs.f.validAt n = some p) (hdims : geometryDiffers dims p = none)
    (htable : 8 ≤ s.ti.table.length) : s.keepOrDrop n dims = .capacity .tableFull := by
  simp [State.keepOrDrop, hp, hdims, htable]

theorem State.keepOrDrop_of_fifoFull (hp : s.prs.f.validAt n = some p) (hdims : geometryDiffers dims p = none)
    (htable : ¬ 8 ≤ s.ti.table.length) (hfifo : 256 < s.ti.fifo.length + 3) :
    s.keepOrDrop n dims = .capacity .fifoFull := by
  have hfree : s.ti.free < 3 := by unfold Ti.free; omega
  simp [State.keepOrDrop, hp, hdims, htable, hfree]

theorem State.keepOrDrop_of_room (hp : s.prs.f.validAt n = some p) (hdims : geometryDiffers dims p = none)
    (htable : ¬ 8 ≤ s.ti.table.length) (hfifo : ¬ 256 < s.ti.fifo.length + 3) :
    s.keepOrDrop n dims = .kept p.tiles := by
  have hfree : ¬ s.ti.free < 3 := by unfold Ti.free; omega
  simp [State.keepOrDrop, hp, hdims, htable, hfree]

end

theorem geometryDiffers_of_same {w h : Nat} {p : ProfileRec} (hdims : ¬ (w ≠ p.width ∨ h ≠ p.height)) :
    geometryDiffers (some (w, h)) p = none := by
  have hsame : w = p.width ∧ h = p.height := by omega
  simp [geometryDiffers, hsame]

theorem geometryDiffers_of_other {w h : Nat} {p : ProfileRec} (hdims : w ≠ p.width ∨ h ≠ p.height) :
    geometryDiffers (some (w, h)) p = some (w, h) := by
  have hother : ¬ (w = p.width ∧ h = p.height) := by omega
  simp [geometryDiffers, hother]

/-! ## The open (R24 to R27) -/

/-- The counters of the TI once a picture is taken up as decided: a drop counts its reason (R25). -/
def Decision.count : Decision → TiCounters → TiCounters
  | .kept _, c => c
  | .noProfile, c => { c with dropNoProfile := bump c.dropNoProfile }
  | .geometry _ _, c => { c with dropGeometry := bump c.dropGeometry }
  | .capacity .tableFull, c => { c with dropTableFull := bump c.dropTableFull }
  | .capacity .fifoFull, c => { c with dropFifoFull := bump c.dropFifoFull }

/-- In `t` the TI has opened, as decided, the picture that is next in `v`. -/
structure State.OpenedAs (v t : State) (q : BitVec 16) (d : Decision) : Prop where
  nextSource : t.ti.nextSource = v.ti.nextSource + 1
  source : t.ti.source = v.ti.nextSource
  linkSeq : t.ti.linkSeq = q
  status : t.ti.status = if d.isKept then .opened else .dropping
  counters : t.ti.counters = d.count v.ti.counters
  fifo : t.ti.fifo = v.ti.fifo ++ if d.isKept then [.openE v.ti.nextSource] else []
  expected : t.ti.expected = 0
  received : t.ti.received = 0
  tiles : ∀ n, d = .kept n → t.ti.tiles = n

/-- A dropped picture whose reason has been counted becomes the current one. -/
theorem State.OpenedAs.of_noted {v u : State} {d : Decision} (q : BitVec 16) (hkept : d.isKept = false)
    (hnext : u.ti.nextSource = v.ti.nextSource + 1) (hfifo : u.ti.fifo = v.ti.fifo)
    (hcounters : u.ti.counters = d.count v.ti.counters) :
    v.OpenedAs (u.makeDropped v.ti.nextSource q) q d where
  nextSource := hnext
  source := rfl
  linkSeq := rfl
  status := by simp [hkept, State.makeDropped]
  counters := hcounters
  fifo := by simpa [hkept, State.makeDropped] using hfifo
  expected := rfl
  received := rfl
  tiles n hn := by simp [hn, Decision.isKept] at hkept

/-- The state in which a picture takes its source number (R24). -/
def State.withNextSource (v : State) : State := { v with ti := { v.ti with nextSource := v.ti.nextSource + 1 } }

theorem State.admitPicture_openedAs (v : State) (q : BitVec 16) (openLost : Bool) (d : Decision) :
    v.OpenedAs (v.withNextSource.admitPicture v.ti.nextSource q openLost d) q d := by
  cases d with
  | kept tiles => exact ⟨rfl, rfl, rfl, rfl, rfl, rfl, rfl, rfl, fun _ h => by cases h; rfl⟩
  | noProfile => exact State.OpenedAs.of_noted q rfl rfl rfl rfl
  | geometry w h =>
    simp only [State.admitPicture, State.noteGeometry]
    split
    · exact State.OpenedAs.of_noted q rfl rfl rfl rfl
    · exact State.OpenedAs.of_noted q rfl rfl rfl rfl
  | capacity r =>
    simp only [State.admitPicture, State.noteCapacity]
    cases r
    all_goals
      split
      · exact State.OpenedAs.of_noted q rfl rfl rfl rfl
      · exact State.OpenedAs.of_noted q rfl rfl rfl rfl

theorem State.OpenedAs.of_kept {v t u : State} {q : BitVec 16} {d : Decision} (h : v.OpenedAs t q d)
    (hu : t.TiKept u) : v.OpenedAs u q d where
  nextSource := (congrArg Ti.nextSource hu.noTable).trans h.nextSource
  source := (congrArg Ti.source hu.noTable).trans h.source
  linkSeq := (congrArg Ti.linkSeq hu.noTable).trans h.linkSeq
  status := (congrArg Ti.status hu.noTable).trans h.status
  counters := (congrArg Ti.counters hu.noTable).trans h.counters
  fifo := (congrArg Ti.fifo hu.noTable).trans h.fifo
  expected := (congrArg Ti.expected hu.noTable).trans h.expected
  received := (congrArg Ti.received hu.noTable).trans h.received
  tiles n hn := (congrArg Ti.tiles hu.noTable).trans (h.tiles n hn)

/-- An open is the truncation, the picture taken up as decided, and its event (R24). -/
theorem State.openPicture_eq (s : State) (q : BitVec 16) (dims : Option (Nat × Nat)) (openLost : Bool) :
    let v := s.truncate
    let d := v.keepOrDrop v.ti.nextSource dims
    s.openPicture q dims openLost =
      (v.withNextSource.admitPicture v.ti.nextSource q openLost d).openEvent v.ti.nextSource d.isKept := rfl

theorem State.openPicture_openedAs (s : State) (q : BitVec 16) (dims : Option (Nat × Nat)) (openLost : Bool) :
    s.truncate.OpenedAs (s.openPicture q dims openLost) q (s.truncate.keepOrDrop s.truncate.ti.nextSource dims) :=
  (s.truncate.admitPicture_openedAs q openLost _).of_kept ((State.TiKept.of_ti rfl).openEvent ..)

theorem Decision.count_truncations (d : Decision) (c : TiCounters) :
    (d.count c).truncations = c.truncations ∧ (d.count c).concealedPositions = c.concealedPositions := by
  unfold Decision.count
  split <;> exact ⟨rfl, rfl⟩

/-- Settles O19: truncation appends the RUN and the END, and the open behind it appends at most its OPEN entry and
counts at most its drop. -/
theorem openTruncatesTheOpenPicture : Obligations.OpenTruncatesTheOpenPicture := by
  intro s q w h hopened hcurrent hprevious
  have hsort : s.ti.sort q = .fresh := Ti.sort_of_new (.inr ⟨hcurrent, hprevious⟩)
  obtain ⟨e, hfifo, hcounters, -, hend⟩ := State.truncate_ti (s := s.goodHeader) hopened
  obtain ⟨d, hopen⟩ : ∃ d, s.goodHeader.truncate.OpenedAs _ q d :=
    ⟨_, s.goodHeader.openPicture_openedAs q (some (w.toNat, h.toNat)) false⟩
  obtain ⟨htruncations, hconcealed⟩ := d.count_truncations s.goodHeader.truncate.ti.counters
  refine ⟨_, e :: (if d.isKept then [.openE s.goodHeader.truncate.ti.nextSource] else []),
    congrArg Host.Outcome.next (State.takeOpen_of_fresh w h hsort), ?_, ?_, ?_,
    fun r hr hf => ⟨_, congrArg (· :: _) (hend r hr hf)⟩⟩
  · rw [hopen.fifo, hfifo, List.append_assoc, List.append_assoc]
    rfl
  · rw [hopen.counters, htruncations, hcounters]
    rfl
  · rw [hopen.counters, hconcealed, hcounters]
    rfl

end Sys2Proof.Machine
end

section
/-! A TILE of the OPEN current picture: appended, behind a RUN where positions are missing, or lost (R30, R32, R33). -/

namespace Sys2Proof.Machine

/-! ## Appending a TILE (R32) -/

/-- END behind the last position, and the status ENDED. -/
def Ti.endAt (t : Ti) (position : Nat) (e : FifoEntry) : Ti :=
  if position + 1 = t.tiles then { t with fifo := t.fifo ++ [e], status := .ended } else t

theorem Ti.endAt_fifo (t : Ti) (position : Nat) (e : FifoEntry) :
    (t.endAt position e).fifo = t.fifo ++ if position + 1 = t.tiles then [e] else [] := by
  unfold Ti.endAt
  split <;> simp

theorem Ti.endAt_status (t : Ti) (position : Nat) (e : FifoEntry) :
    (t.endAt position e).status = if position + 1 = t.tiles then .ended else t.status := by
  unfold Ti.endAt
  split <;> rfl

theorem Ti.endAt_rest (t : Ti) (position : Nat) (e : FifoEntry) :
    { t.endAt position e with fifo := t.fifo, status := t.status } = t := by
  unfold Ti.endAt
  split <;> rfl

theorem State.endIfLast_noTable (s : State) (position : Nat) :
    (s.endIfLast position).ti.noTable = s.ti.noTable.endAt position s.endOf := by
  unfold State.endIfLast Ti.endAt
  split
  · rw [State.appendEnd_eq, if_pos (by assumption)]
    exact congrArg (fun t : Ti => { t with status := .ended }) (s.appendEntry_noTable s.endOf)
  · rw [if_neg (by assumption)]

theorem State.appendTile_noTable (s : State) (position : Nat) (samples : List Sample) :
    (s.appendTile position samples).ti.noTable =
      ({ s.ti.noTable with fifo := s.ti.fifo ++ [.tileE position samples], expected := position + 1 } : Ti).endAt position
        (s.appendEntry (.tileE position samples)).endOf :=
  (State.endIfLast_noTable ..).trans (congrArg
    (fun t : Ti => ({ t with expected := position + 1 } : Ti).endAt position
      (s.appendEntry (.tileE position samples)).endOf) (s.appendEntry_noTable (.tileE position samples)))

/-- In `t` the TILE at a position has been appended to the Tile FIFO of `s`, and END behind the last one (R32). -/
structure State.TileAppended (s t : State) (position : Nat) (samples : List Sample) : Prop where
  fifo : t.ti.fifo = s.ti.fifo ++ [.tileE position samples] ++
    if position + 1 = s.ti.tiles then [(s.appendEntry (.tileE position samples)).endOf] else []
  status : t.ti.status = if position + 1 = s.ti.tiles then .ended else s.ti.status
  expected : t.ti.expected = position + 1
  received : t.ti.received = s.ti.received
  counters : t.ti.counters = s.ti.counters
  tiles : t.ti.tiles = s.ti.tiles
  source : t.ti.source = s.ti.source
  linkSeq : t.ti.linkSeq = s.ti.linkSeq
  nextSource : t.ti.nextSource = s.ti.nextSource

theorem State.appendTile_appended (s : State) (position : Nat) (samples : List Sample) :
    s.TileAppended (s.appendTile position samples) position samples := by
  have hti := s.appendTile_noTable position samples
  have hrest := Ti.endAt_rest
    { s.ti.noTable with fifo := s.ti.fifo ++ [.tileE position samples], expected := position + 1 } position
    (s.appendEntry (.tileE position samples)).endOf
  exact {
    fifo := (congrArg Ti.fifo hti :).trans (Ti.endAt_fifo ..)
    status := (congrArg Ti.status hti :).trans (Ti.endAt_status ..)
    expected := (congrArg Ti.expected hti :).trans (congrArg Ti.expected hrest :)
    received := (congrArg Ti.received hti :).trans (congrArg Ti.received hrest :)
    counters := (congrArg Ti.counters hti :).trans (congrArg Ti.counters hrest :)
    tiles := (congrArg Ti.tiles hti :).trans (congrArg Ti.tiles hrest :)
    source := (congrArg Ti.source hti :).trans (congrArg Ti.source hrest :)
    linkSeq := (congrArg Ti.linkSeq hti :).trans (congrArg Ti.linkSeq hrest :)
    nextSource := (congrArg Ti.nextSource hti :).trans (congrArg Ti.nextSource hrest :) }

theorem State.coverGap_noTable (s : State) (position : Nat) :
    (s.coverGap position).ti.noTable = { s.ti.noTable with
      fifo := s.ti.fifo ++ [.runE s.ti.expected (position - s.ti.expected)]
      counters := { s.ti.counters with
        concealedPositions := addSat s.ti.counters.concealedPositions (position - s.ti.expected) } } :=
  State.appendEntry_noTable ..

/-! ## Where a TILE is placed (R30, R32, R33, R34) -/

section
variable {s : State} {position : Nat} (samples : List Sample)

theorem State.currentTile_of_opened (hstatus : s.ti.status = .opened) (hposition : position < s.ti.tiles) :
    s.currentTile position samples = s.countReceived.placeTile position samples := by
  simp [State.currentTile, hstatus, Nat.not_le.2 hposition]

theorem State.currentTile_of_opened_past_end (hstatus : s.ti.status = .opened) (hposition : s.ti.tiles ≤ position) :
    s.currentTile position samples = s.formatError := by
  simp [State.currentTile, hstatus, hposition]

theorem State.placeTile_of_duplicate (hposition : position < s.ti.expected) :
    s.placeTile position samples = s.countTi fun c => { c with duplicateTiles := bump c.duplicateTiles } :=
  if_pos hposition

theorem State.placeTile_of_next (hposition : position = s.ti.expected) (hroom : s.ti.fifo.length + 3 ≤ 256) :
    s.placeTile position samples = s.appendTile position samples := by
  have hfree : 3 ≤ s.ti.free := by unfold Ti.free; omega
  simp [State.placeTile, hposition, hfree]

theorem State.placeTile_of_gap (hposition : s.ti.expected < position) (hroom : s.ti.fifo.length + 4 ≤ 256) :
    s.placeTile position samples = (s.coverGap position).appendTile position samples := by
  have hfree : 4 ≤ s.ti.free := by unfold Ti.free; omega
  simp [State.placeTile, Nat.not_lt.2 hposition.le, hposition.ne', hfree]

theorem State.placeTile_of_full (hposition : s.ti.expected ≤ position)
    (hfull : 256 < s.ti.fifo.length + if position = s.ti.expected then 3 else 4) :
    s.placeTile position samples = s.loseTile := by
  unfold State.placeTile Ti.free
  rw [if_neg (Nat.not_lt.2 hposition)]
  split at hfull
  · rw [if_pos (by assumption), if_neg (by omega)]
  · rw [if_neg (by assumption), if_neg (by omega)]

end

theorem State.loseTile_eq (s : State) : s.loseTile = { s with
    ti := { s.ti with
      overrunNoted := true
      counters := { s.ti.counters with overrun := bump s.ti.counters.overrun } }
    lsA := if s.ti.overrunNoted then s.lsA else s.lsA.enqueue 32 (.notice (.overrun s.ti.source)) } := by
  simp only [State.loseTile]
  split
  · simp [State.countTi]
  · rfl

/-! ## The END of a picture whose record stream F has not finished -/

theorem State.record_appendEntry {s : State} {n : Nat} {r : PicRecord} (e : FifoEntry) (h : s.record n = some r)
    (hopen : r.fState.finished = false) : ∃ q, (s.appendEntry e).record n = some q ∧ q.intake = r.intake :=
  (s.appendEntry_kept e).found n r h hopen

theorem State.endOf_coverGap_appendEntry {s : State} {r : PicRecord} (position : Nat) (e : FifoEntry)
    (h : s.record s.ti.source = some r) (hopen : r.fState.finished = false) :
    ((s.coverGap position).appendEntry e).endOf = .endE s.ti.source r.openLost r.truncated true := by
  have hmarked := State.record_editRecord (m := s.ti.source) (f := fun r => { r with concealed := true })
    (fun _ => rfl) h
  rw [if_pos (State.record_source h)] at hmarked
  have hsource : (s.coverGap position).ti.source = s.ti.source := (congrArg Ti.source (s.coverGap_noTable position) :)
  obtain ⟨q, hq, hqr⟩ : ∃ q, (s.coverGap position).record s.ti.source = some q ∧
      q.intake = PicRecord.intake { r with concealed := true } := State.record_appendEntry _ hmarked hopen
  have hqopen : q.fState.finished = false := PicRecord.finished_of_intake hqr hopen
  have hlost : q.openLost = r.openLost := (congrArg PicRecord.openLost hqr :)
  have hcut : q.truncated = r.truncated := (congrArg PicRecord.truncated hqr :)
  have hhidden : q.concealed = true := (congrArg PicRecord.concealed hqr :)
  rw [State.endOf_appendEntry e (hsource ▸ hq) hqopen, hsource, hlost, hcut, hhidden]

theorem State.takeTile_of_opened {s : State} {q position : BitVec 16} {bytes : List Byte} (hbytes : bytes.length = 1280)
    (hstatus : s.ti.status = .opened) (hq : q = s.ti.linkSeq) (hposition : position.toNat < s.ti.tiles) :
    s.takeTile q position bytes =
      s.goodHeader.countReceived.placeTile position.toNat (unpackSamples bytes) :=
  (State.takeTile_of_linkSeq position hbytes hq (by simp [hstatus])).trans
    (State.currentTile_of_opened _ hstatus hposition)

/-- Settles O20: by where the position lies beside the expected one and by the room. -/
theorem tileInOrderIsAppendedOrLost : Obligations.TileInOrderIsAppendedOrLost := by
  refine ⟨fun s q position bytes r hbytes hstatus hq hposition hr hopen => ?_,
    fun s q position bytes hbytes hstatus hq hposition hexpected hfull => ?_⟩
  · have htake := State.takeTile_of_opened hbytes hstatus hq hposition
    refine ⟨fun hnext hroom =>
        ⟨_, congrArg Host.Outcome.next (htake.trans (State.placeTile_of_next _ hnext hroom)), ?_⟩,
      fun hgap hroom => ⟨_, congrArg Host.Outcome.next (htake.trans (State.placeTile_of_gap _ hgap hroom)), ?_⟩,
      fun hdup => congrArg Host.Outcome.next (htake.trans (State.placeTile_of_duplicate _ hdup))⟩
    · have hend := State.endOf_appendEntry (s := s.goodHeader.countReceived)
        (.tileE position.toNat (unpackSamples bytes)) hr hopen
      have happended := s.goodHeader.countReceived.appendTile_appended position.toNat (unpackSamples bytes)
      refine ⟨happended.expected.trans (congrArg (· + 1) hnext), happended.received, happended.counters, by simp,
        by simp, ?_, ?_⟩
      · rw [happended.fifo, hend]
        rfl
      · rw [happended.status, ← hstatus]
        rfl
    · have hend := State.endOf_coverGap_appendEntry (s := s.goodHeader.countReceived) position.toNat
        (.tileE position.toNat (unpackSamples bytes)) hr hopen
      have hgapped := s.goodHeader.countReceived.coverGap_noTable position.toNat
      have happended := (s.goodHeader.countReceived.coverGap position.toNat).appendTile_appended position.toNat
        (unpackSamples bytes)
      have hrun : (s.goodHeader.countReceived.coverGap position.toNat).ti.fifo =
          s.ti.fifo ++ [.runE s.ti.expected (position.toNat - s.ti.expected)] := (congrArg Ti.fifo hgapped :)
      have htiles : (s.goodHeader.countReceived.coverGap position.toNat).ti.tiles = s.ti.tiles :=
        (congrArg Ti.tiles hgapped :)
      refine ⟨happended.expected, happended.received.trans (congrArg Ti.received hgapped :), ?_, ?_⟩
      · rw [happended.counters]
        exact (congrArg (fun t : Ti => t.counters.concealedPositions) hgapped :)
      · rw [happended.fifo, hend, hrun, htiles, List.append_assoc s.ti.fifo]
        rfl
  · exact congrArg Host.Outcome.next (((State.takeTile_of_opened hbytes hstatus hq hposition).trans
      (State.placeTile_of_full _ hexpected hfull)).trans (State.loseTile_eq _))

end Sys2Proof.Machine
end

section
/-! The packet of a new picture: its number, the decision, and the TILE that opens it (R23 to R27, R35). -/

namespace Sys2Proof.Machine

/-! ## The record of an opened picture (R27) -/

/-- The table holds the record of a picture as its open wrote it, and SC-F has not begun it (R27). -/
def State.holdsNew (s : State) (n : Nat) (openLost : Bool) (stamp : Label) (again : Bool) : Prop :=
  ∃ r ∈ s.ti.table, r.source = n ∧ r.openLost = openLost ∧ r.frStamp = stamp ∧ r.stampRepeat = again ∧
    r.fState = .waiting

section
variable {s t : State} {n : Nat} {openLost again : Bool} {stamp : Label}

theorem State.TiKept.holdsNew (h : s.TiKept t) (hnew : s.holdsNew n openLost stamp again) :
    t.holdsNew n openLost stamp again := by
  obtain ⟨r, hr, hsource, hlost, hstamp, hagain, hstate⟩ := hnew
  obtain ⟨q, hq, hqr⟩ := h.held r hr (by simp [hstate, StreamState.finished])
  exact ⟨q, hq, (congrArg PicRecord.source hqr :).trans hsource, (congrArg PicRecord.openLost hqr :).trans hlost,
    (congrArg PicRecord.frStamp hqr :).trans hstamp, (congrArg PicRecord.stampRepeat hqr :).trans hagain,
    (congrArg PicRecord.fState hqr :).trans hstate⟩

theorem State.appendEntry_holdsNew (e : FifoEntry) (h : s.holdsNew n openLost stamp again) :
    (s.appendEntry e).holdsNew n openLost stamp again :=
  (s.appendEntry_kept e).holdsNew h

theorem State.appendTile_holdsNew (position : Nat) (samples : List Sample) (h : s.holdsNew n openLost stamp again) :
    (s.appendTile position samples).holdsNew n openLost stamp again := by
  have htile := State.appendEntry_holdsNew (.tileE position samples) h
  unfold State.appendTile State.endIfLast
  dsimp only
  split
  · rw [State.appendEnd_eq]
    exact State.appendEntry_holdsNew _ htile
  · exact htile

theorem State.coverGap_holdsNew (position : Nat) (h : s.holdsNew n openLost stamp again) :
    (s.coverGap position).holdsNew n openLost stamp again := by
  obtain ⟨r, hr, hnew⟩ := h
  have hmarked : (s.editRecord s.ti.source fun r => { r with concealed := true }).holdsNew n openLost stamp again := by
    refine ⟨_, modifyRecord_mem hr s.ti.source fun r => { r with concealed := true }, ?_⟩
    split <;> exact hnew
  exact State.appendEntry_holdsNew _ hmarked

theorem State.currentTile_holdsNew (position : Nat) (samples : List Sample) (h : s.holdsNew n openLost stamp again) :
    (s.currentTile position samples).holdsNew n openLost stamp again := by
  have hlose : s.countReceived.loseTile.holdsNew n openLost stamp again := by
    rw [State.loseTile_eq]
    exact h
  unfold State.currentTile
  split
  · split
    · exact h
    · unfold State.placeTile
      split
      · exact h
      · split
        · split
          · exact State.appendTile_holdsNew _ _ h
          · exact hlose
        · split
          · exact State.appendTile_holdsNew _ _ (State.coverGap_holdsNew _ h)
          · exact hlose
  · split <;> exact h
  all_goals exact h

end

theorem State.openPicture_holdsNew {s : State} {dims : Option (Nat × Nat)} {tiles : Nat} (q : BitVec 16)
    (openLost : Bool) (hkept : s.truncate.keepOrDrop s.truncate.ti.nextSource dims = .kept tiles) :
    (s.openPicture q dims openLost).holdsNew s.ti.nextSource openLost s.tcu.freeRun s.tcu.labelTaken := by
  have hfree : s.truncate.tcu = s.tcu := by simp
  rw [State.openPicture_eq]
  refine ((State.TiKept.of_ti rfl).openEvent ..).holdsNew ?_
  rw [hkept, ← hfree, ← State.truncate_nextSource s]
  exact State.appendEntry_holdsNew _ ⟨_, List.mem_append_right _ (List.mem_singleton_self _), rfl, rfl, rfl, rfl, rfl⟩

/-! ## The current picture keeps its number through a TILE -/

/-- The numbers of the current picture and its tile count, and the number of the next one. -/
def Ti.current (t : Ti) : Nat × Nat × BitVec 16 × Nat := (t.nextSource, t.source, t.linkSeq, t.tiles)

theorem State.appendTile_current (s : State) (position : Nat) (samples : List Sample) :
    (s.appendTile position samples).ti.current = s.ti.current := by
  have h := s.appendTile_appended position samples
  simp only [Ti.current, h.nextSource, h.source, h.linkSeq, h.tiles]

theorem State.placeTile_current (s : State) (position : Nat) (samples : List Sample) :
    (s.placeTile position samples).ti.current = s.ti.current := by
  have hlose : s.loseTile.ti.current = s.ti.current := by rw [State.loseTile_eq]; rfl
  have hcover : (s.coverGap position).ti.current = s.ti.current := (congrArg Ti.current (s.coverGap_noTable position) :)
  unfold State.placeTile
  split
  · rfl
  · split
    · split
      · exact State.appendTile_current ..
      · exact hlose
    · split
      · exact (State.appendTile_current ..).trans hcover
      · exact hlose

theorem State.currentTile_current (s : State) (position : Nat) (samples : List Sample) :
    (s.currentTile position samples).ti.current = s.ti.current := by
  unfold State.currentTile
  split
  · split
    · rfl
    · exact State.placeTile_current ..
  · split <;> rfl
  all_goals rfl

/-! ## What the open and its TILE leave, by the decision -/

namespace State.OpenedAs

variable {v u : State} {q : BitVec 16} {d : Decision}

theorem dropped (h : v.OpenedAs u q d) (hd : d.isKept = false) :
    u.ti.status = .dropping ∧ u.ti.fifo = v.ti.fifo ∧ u.ti.counters = d.count v.ti.counters :=
  ⟨by simpa [hd] using h.status, by simpa [hd] using h.fifo, h.counters⟩

theorem tile_of_dropped (h : v.OpenedAs u q d) (hd : d.isKept = false) (position : Nat) (samples : List Sample) :
    (u.currentTile position samples).ti.status = .dropping ∧
      (u.currentTile position samples).ti.fifo = v.ti.fifo ∧
      (u.currentTile position samples).ti.counters = { d.count v.ti.counters with
        droppedTiles := bump (d.count v.ti.counters).droppedTiles } := by
  obtain ⟨hstatus, hfifo, hcounters⟩ := h.dropped hd
  rw [State.currentTile_of_dropping _ _ hstatus, ← hcounters]
  exact ⟨hstatus, hfifo, rfl⟩

variable {tiles : Nat}

theorem tile_past_end (h : v.OpenedAs u q (.kept tiles)) {position : Nat} (samples : List Sample)
    (hposition : tiles ≤ position) :
    (u.currentTile position samples).ti.status = .opened ∧
      (u.currentTile position samples).ti.fifo = v.ti.fifo ++ [.openE v.ti.nextSource] ∧
      (u.currentTile position samples).ti.expected = 0 ∧ (u.currentTile position samples).ti.received = 0 ∧
      (u.currentTile position samples).ti.counters = { v.ti.counters with
        formatErrors := bump v.ti.counters.formatErrors } := by
  rw [State.currentTile_of_opened_past_end samples h.status ((h.tiles _ rfl).le.trans hposition)]
  exact ⟨h.status, h.fifo, h.expected, h.received,
    congrArg (fun c : TiCounters => { c with formatErrors := bump c.formatErrors }) h.counters⟩

theorem tile_without_room (h : v.OpenedAs u q (.kept tiles)) {position : Nat} (samples : List Sample)
    (hposition : position < tiles) (hfull : 256 < v.ti.fifo.length + if position = 0 then 4 else 5) :
    (u.currentTile position samples).ti.status = .opened ∧
      (u.currentTile position samples).ti.fifo = v.ti.fifo ++ [.openE v.ti.nextSource] ∧
      (u.currentTile position samples).ti.expected = 0 ∧ (u.currentTile position samples).ti.received = 1 ∧
      (u.currentTile position samples).ti.counters = { v.ti.counters with overrun := bump v.ti.counters.overrun } := by
  have hlength : u.ti.fifo.length = v.ti.fifo.length + 1 := by simp [h.fifo, Decision.isKept]
  have hexpected : u.countReceived.ti.expected = 0 := h.expected
  have hroom : 256 < u.countReceived.ti.fifo.length + if position = u.countReceived.ti.expected then 3 else 4 := by
    rw [hexpected, show u.countReceived.ti.fifo.length = _ from hlength]
    split at hfull
    · rw [if_pos (by assumption)]
      omega
    · rw [if_neg (by assumption)]
      omega
  rw [State.currentTile_of_opened samples h.status (hposition.trans_le (h.tiles _ rfl).ge),
    State.placeTile_of_full samples (hexpected ▸ Nat.zero_le _) hroom, State.loseTile_eq]
  exact ⟨h.status, h.fifo, h.expected, congrArg (· + 1) h.received,
    congrArg (fun c : TiCounters => { c with overrun := bump c.overrun }) h.counters⟩

/-- The TILE that opens a picture and finds room is appended behind the OPEN entry, and behind a RUN over the positions
before it (R32, R35). -/
theorem tile_placed (h : v.OpenedAs u q (.kept tiles)) {position : Nat} (samples : List Sample)
    (hposition : position < tiles) (hroom : ¬ 256 < v.ti.fifo.length + if position = 0 then 4 else 5) :
    ∃ g : State, u.currentTile position samples = g.appendTile position samples ∧ g.ti.status = .opened ∧
      g.ti.tiles = tiles ∧ g.ti.source = v.ti.nextSource ∧ g.ti.received = 1 ∧
      g.ti.counters = { v.ti.counters with
        concealedPositions := if position = 0 then v.ti.counters.concealedPositions
          else addSat v.ti.counters.concealedPositions position } ∧
      g.ti.fifo = v.ti.fifo ++ [.openE v.ti.nextSource] ++ if position = 0 then [] else [.runE 0 position] := by
  have hlength : u.countReceived.ti.fifo.length = v.ti.fifo.length + 1 := by
    simp [State.countReceived, h.fifo, Decision.isKept]
  have hexpected : u.countReceived.ti.expected = 0 := h.expected
  rw [State.currentTile_of_opened samples h.status (hposition.trans_le (h.tiles _ rfl).ge)]
  split at hroom
  · next hzero =>
    refine ⟨_, State.placeTile_of_next samples (hzero.trans hexpected.symm) (by omega), h.status, h.tiles _ rfl, h.source,
      congrArg (· + 1) h.received, ?_, ?_⟩
    · rw [if_pos hzero]
      exact h.counters
    · rw [if_pos hzero, List.append_nil]
      exact h.fifo
  · next hzero =>
    have hcover := u.countReceived.coverGap_noTable position
    rw [hexpected] at hcover
    refine ⟨_, State.placeTile_of_gap samples (by omega) (by omega), (congrArg Ti.status hcover :).trans h.status,
      (congrArg Ti.tiles hcover :).trans (h.tiles _ rfl), (congrArg Ti.source hcover :).trans h.source,
      (congrArg Ti.received hcover :).trans (congrArg (· + 1) h.received), ?_, ?_⟩
    · rw [if_neg hzero]
      exact (congrArg Ti.counters hcover :).trans (congrArg (fun c : TiCounters =>
        { c with concealedPositions := addSat c.concealedPositions position }) h.counters)
    · rw [if_neg hzero]
      exact (congrArg Ti.fifo hcover :).trans (congrArg (fun l => l ++ [FifoEntry.runE 0 position]) h.fifo)

end State.OpenedAs

/-- Behind a TILE at the last position stands the END of the current picture, behind any other nothing. -/
theorem State.TileAppended.fifo_last {s t : State} {position : Nat} {samples : List Sample}
    (h : s.TileAppended t position samples) :
    ∃ last : List FifoEntry, t.ti.fifo = s.ti.fifo ++ [.tileE position samples] ++ last ∧
      (position + 1 ≠ s.ti.tiles → last = []) ∧
      (position + 1 = s.ti.tiles → ∃ lost cut hidden, last = [.endE s.ti.source lost cut hidden]) := by
  have hsource : (s.appendEntry (.tileE position samples)).ti.source = s.ti.source :=
    (congrArg Ti.source (s.appendEntry_noTable (.tileE position samples)) :)
  obtain ⟨lost, cut, hidden, hend⟩ := (s.appendEntry (.tileE position samples)).endOf_eq_endE
  refine ⟨_, h.fifo, fun hnot => if_neg hnot, fun hlast => ⟨lost, cut, hidden, ?_⟩⟩
  rw [if_pos hlast, hend, hsource]

/-! ## The packet that opens a picture (R23, R24, R35) -/

/-- An OPEN packet of a new picture opens it as decided, and the record of a kept one bears no OPEN_LOST. -/
theorem State.takeOpen_openedAs {s v : State} {q : BitVec 16} (w h : BitVec 16) (hv : v = s.goodHeader.truncate)
    (hnew : s.ti.status = .idle ∨ (q ≠ s.ti.linkSeq ∧ q ≠ s.ti.linkSeq - 1)) :
    ∃ t d, s.takeOpen q q w h = t ∧ v.keepOrDrop s.ti.nextSource (some (w.toNat, h.toNat)) = d ∧ v.OpenedAs t q d ∧
      ∀ tiles, d = .kept tiles → t.holdsNew s.ti.nextSource false s.tcu.freeRun s.tcu.labelTaken := by
  have hnext : v.ti.nextSource = s.ti.nextSource := by rw [hv]; exact State.truncate_nextSource _
  refine ⟨_, _, State.takeOpen_of_fresh w h (Ti.sort_of_new hnew), rfl, ?_, fun tiles hkept => ?_⟩
  · rw [← hnext, hv]
    exact State.openPicture_openedAs ..
  · rw [← hnext, hv] at hkept
    exact State.openPicture_holdsNew q false hkept

/-- A TILE of a new picture opens it as decided, with OPEN_LOST in the record of a kept one, and is then one of its
tiles. -/
theorem State.takeTile_openedAs {s v : State} {q : BitVec 16} (position : BitVec 16) {bytes : List Byte}
    (hv : v = (s.goodHeader.countTi fun c => { c with impliedOpens := bump c.impliedOpens }).truncate)
    (hbytes : bytes.length = 1280) (hnew : s.ti.status = .idle ∨ (q ≠ s.ti.linkSeq ∧ q ≠ s.ti.linkSeq - 1)) :
    ∃ u d, s.takeTile q position bytes = u.currentTile position.toNat (unpackSamples bytes) ∧
      v.keepOrDrop s.ti.nextSource none = d ∧ v.OpenedAs u q d ∧
      ∀ tiles, d = .kept tiles → u.holdsNew s.ti.nextSource true s.tcu.freeRun s.tcu.labelTaken := by
  have hnext : v.ti.nextSource = s.ti.nextSource := by rw [hv]; exact State.truncate_nextSource _
  refine ⟨_, _, State.takeTile_of_fresh position hbytes (Ti.sort_of_new hnew), rfl, ?_, fun tiles hkept => ?_⟩
  · rw [← hnext, hv]
    exact State.openPicture_openedAs ..
  · rw [← hnext, hv] at hkept
    exact State.openPicture_holdsNew q true hkept

/-- Settles O17: the open by the decision in the order of Table 2-3, and its TILE by the decision, the position and the
room. -/
theorem picturesAreKeptOrDroppedInOrder : Obligations.PicturesAreKeptOrDroppedInOrder := by
  refine ⟨fun s h => State.truncate_of_not_opened h, fun s v q w h hv hnew => ?_,
    fun s v q position bytes c hv hc hbytes hnew => ?_⟩
  · have hprs : v.prs = s.prs := by simp [hv]
    have hnext : v.ti.nextSource = s.ti.nextSource := by rw [hv]; exact State.truncate_nextSource _
    obtain ⟨t, d, htake, hd, hopen, hrecord⟩ := State.takeOpen_openedAs w h hv hnew
    refine ⟨t, congrArg Host.Outcome.next htake, hopen.nextSource.trans (congrArg (· + 1) hnext),
      hopen.source.trans hnext, hopen.linkSeq, ?_⟩
    rw [← hprs]
    split
    · next hp =>
      cases hd.symm.trans (State.keepOrDrop_of_noProfile hp)
      exact hopen.dropped rfl
    · next p hp =>
      split
      · next hdims =>
        cases hd.symm.trans (State.keepOrDrop_of_geometry hp (geometryDiffers_of_other hdims))
        exact hopen.dropped rfl
      · next hdims =>
        have hsame := geometryDiffers_of_same hdims
        split
        · next htable =>
          cases hd.symm.trans (State.keepOrDrop_of_tableFull hp hsame htable)
          exact hopen.dropped rfl
        · next htable =>
          split
          · next hfifo =>
            cases hd.symm.trans (State.keepOrDrop_of_fifoFull hp hsame htable hfifo)
            exact hopen.dropped rfl
          · next hfifo =>
            cases hd.symm.trans (State.keepOrDrop_of_room hp hsame htable hfifo)
            rw [← hnext]
            exact ⟨hopen.status, hopen.counters, hopen.expected, hopen.received, hopen.tiles _ rfl, hopen.fifo,
              hnext ▸ hrecord _ rfl⟩
  · have hprs : v.prs = s.prs := by simp [hv]
    have hnext : v.ti.nextSource = s.ti.nextSource := by rw [hv]; exact State.truncate_nextSource _
    obtain ⟨u, d, htake, hd, hopen, hrecord⟩ := State.takeTile_openedAs position hv hbytes hnew
    have hcurrent := u.currentTile_current position.toNat (unpackSamples bytes)
    subst hc
    refine ⟨_, congrArg Host.Outcome.next htake,
      (congrArg (·.1) hcurrent :).trans (hopen.nextSource.trans (congrArg (· + 1) hnext)),
      (congrArg (·.2.1) hcurrent :).trans (hopen.source.trans hnext),
      (congrArg (·.2.2.1) hcurrent :).trans hopen.linkSeq, ?_⟩
    rw [← hprs]
    split
    · next hp =>
      cases hd.symm.trans (State.keepOrDrop_of_noProfile hp)
      exact hopen.tile_of_dropped rfl ..
    · next p hp =>
      have hdims : geometryDiffers none p = none := rfl
      split
      · next htable =>
        cases hd.symm.trans (State.keepOrDrop_of_tableFull hp hdims htable)
        exact hopen.tile_of_dropped rfl ..
      · next htable =>
        split
        · next hfifo =>
          cases hd.symm.trans (State.keepOrDrop_of_fifoFull hp hdims htable hfifo)
          exact hopen.tile_of_dropped rfl ..
        · next hfifo =>
          cases hd.symm.trans (State.keepOrDrop_of_room hp hdims htable hfifo)
          refine ⟨(congrArg (·.2.2.2) hcurrent :).trans (hopen.tiles _ rfl),
            State.currentTile_holdsNew _ _ (hrecord _ rfl), ?_⟩
          rw [← hnext]
          split
          · next hpast => exact hopen.tile_past_end _ hpast
          · next hpast =>
            have hposition := Nat.lt_of_not_le hpast
            by_cases hfull : 256 < v.ti.fifo.length + if position.toNat = 0 then 4 else 5
            · rw [if_pos hfull]
              exact hopen.tile_without_room _ hposition hfull
            · rw [if_neg hfull]
              obtain ⟨g, hg, hstatus, htiles, hsource, hreceived, hcounters, hgfifo⟩ :=
                hopen.tile_placed (unpackSamples bytes) hposition hfull
              have hplaced := g.appendTile_appended position.toNat (unpackSamples bytes)
              have hlast := hplaced.fifo_last
              rw [hgfifo, htiles, hsource] at hlast
              rw [hg]
              refine ⟨hplaced.expected, hplaced.received.trans hreceived, hplaced.counters.trans hcounters, ?_, hlast⟩
              rw [hplaced.status, htiles, hstatus]

end Sys2Proof.Machine
end

section
/-! The picture-open event at the TCU, the FSC, the TKC and the lane senders (R29, R123, R124, R171). -/

namespace Sys2Proof.Machine

/-! ## The TCU (R123, R124) -/

/-- The TCU once it has taken an open: at the eighth since the last pulse a PRESENT REF becomes LOST (R123). -/
def Tcu.opened (t : Tcu) (source : Nat) : Tcu :=
  if (t.noteOpen source).lossDue then
    { t.noteOpen source with
      refPresent := false, opensSinceLoss := 0
      counters := { (t.noteOpen source).counters with refLosses := bump (t.noteOpen source).counters.refLosses } }
  else t.noteOpen source

theorem State.tcuOpen_tcu (s : State) (source : Nat) : (s.tcuOpen source).tcu = s.tcu.opened source := by
  unfold State.tcuOpen State.takeRefLoss Tcu.opened
  split
  · simp
  · rfl

theorem Tcu.lossDue_noteOpen (t : Tcu) (source : Nat) :
    (t.noteOpen source).lossDue = true ↔ t.refPresent = true ∧ 8 ≤ t.opensSincePulse + 1 := by
  simp [Tcu.lossDue, Tcu.noteOpen]

theorem Tcu.noteOpen_refLosses (t : Tcu) (source : Nat) :
    (t.noteOpen source).counters.refLosses = t.counters.refLosses := by
  simp only [Tcu.noteOpen]
  split <;> rfl

theorem Tcu.noteOpen_stampRepeats (t : Tcu) (source : Nat) : (t.noteOpen source).counters.stampRepeats =
    if t.labelTaken then bump t.counters.stampRepeats else t.counters.stampRepeats := by
  simp only [Tcu.noteOpen]
  split <;> rfl

/-- What every open leaves in the TCU, whether or not REF becomes LOST (R124, R129). -/
theorem Tcu.opened_label (t : Tcu) (source : Nat) :
    (t.opened source).lastOpen = some ⟨source, t.freeRun⟩ ∧ (t.opened source).labelTaken = true ∧
      (t.opened source).freeRun = t.freeRun ∧ (t.opened source).alignAwaiting = false ∧
      (t.opened source).opensSincePulse = min (t.opensSincePulse + 1) 8 ∧
      (t.opened source).counters.stampRepeats =
        if t.labelTaken then bump t.counters.stampRepeats else t.counters.stampRepeats := by
  rw [← Tcu.noteOpen_stampRepeats t source]
  unfold Tcu.opened
  split <;> exact ⟨rfl, rfl, rfl, rfl, rfl, rfl⟩

/-- The REF watch at an open (R123). -/
theorem Tcu.opened_watch (t : Tcu) (source : Nat) :
    (t.opened source).refPresent = (t.refPresent && decide (t.opensSincePulse + 1 < 8)) ∧
      (t.opened source).opensSinceLoss = (if t.refPresent then
          (if t.opensSincePulse + 1 < 8 then t.opensSinceLoss else 0)
        else min (t.opensSinceLoss + 1) 65535) ∧
      (t.opened source).counters.refLosses = if t.refPresent = true ∧ 8 ≤ t.opensSincePulse + 1 then
        bump t.counters.refLosses else t.counters.refLosses := by
  have hrefLosses := t.noteOpen_refLosses source
  unfold Tcu.opened
  split
  · next hdue =>
    obtain ⟨hpresent, heighth⟩ := (t.lossDue_noteOpen source).1 hdue
    simp [hpresent, heighth, Nat.not_lt.2 heighth, hrefLosses]
  · next hdue =>
    have hnot : ¬ (t.refPresent = true ∧ 8 ≤ t.opensSincePulse + 1) := fun h => hdue ((t.lossDue_noteOpen source).2 h)
    rw [if_neg hnot, hrefLosses]
    cases hpresent : t.refPresent with
    | false => simp [Tcu.noteOpen, hpresent, add16]
    | true =>
      have hfew : t.opensSincePulse + 1 < 8 := by simp [hpresent] at hnot; omega
      simp [Tcu.noteOpen, hpresent, hfew]

/-- The TCU without the record-run counter, which the TKC advances for a picture it takes up (R125). -/
def Tcu.noRecordRun (t : Tcu) : Tcu := { t with recordRun := ⟨0, 0, 0, 0⟩ }

theorem State.tkcOpen_noRecordRun (s : State) (source : Nat) (kept : Bool) :
    (s.tkcOpen source kept).tcu.noRecordRun = s.tcu.noRecordRun := by
  simp only [State.tkcOpen]
  split
  · rfl
  · split
    · rfl
    · split <;> rfl

theorem State.openEvent_noRecordRun (s : State) (source : Nat) (kept : Bool) :
    (s.openEvent source kept).tcu.noRecordRun = (s.tcu.opened source).noRecordRun := by
  rw [← State.tcuOpen_tcu]
  simp [State.openEvent, State.tkcOpen_noRecordRun]

/-! ## The FSC and the TKC (R29) -/

theorem State.openEvent_newest (s : State) (source : Nat) (kept : Bool) :
    (s.openEvent source kept).fsc.newest = some source := by
  have hrelease : ∀ u : State, ((u.ordinaryRelease .f).ordinaryRelease .p).fsc.newest = u.fsc.newest :=
    fun u => (((State.Confined.refl u).ordinaryRelease .f).ordinaryRelease .p).newest
  simp [State.openEvent, hrelease]

theorem State.tkcOpen_lastOpen (s : State) (source : Nat) (kept : Bool) :
    (s.tkcOpen source kept).tkc.lastOpen = some source := by
  simp only [State.tkcOpen]
  split
  · rfl
  · split
    · rfl
    · split <;> rfl

theorem State.openEvent_lastOpen (s : State) (source : Nat) (kept : Bool) :
    (s.openEvent source kept).tkc.lastOpen = some source := by
  simp [State.openEvent, State.tkcOpen_lastOpen]

/-! ## A TILE behind its open reaches neither -/

theorem State.currentTile_confined (s : State) (position : Nat) (samples : List Sample) :
    ∃ k, s.Confined k (s.currentTile position samples) := by
  have hreceived : s.Confined 0 s.countReceived := (Confined.refl s).withTi (by simp)
  unfold State.currentTile
  split
  · split
    · exact ⟨_, (Confined.refl s).countTi _⟩
    · unfold State.placeTile
      split
      · exact ⟨_, hreceived.countTi _⟩
      · split
        · split
          · exact ⟨_, (hreceived.appendTile ..).1⟩
          · exact ⟨_, hreceived.loseTile⟩
        · split
          · exact ⟨_, ((hreceived.coverGap _).appendTile ..).1⟩
          · exact ⟨_, hreceived.loseTile⟩
  · split
    · exact ⟨_, (Confined.refl s).countTi _⟩
    · exact ⟨_, hreceived.countTi _⟩
  · exact ⟨_, (Confined.refl s).countTi _⟩
  · exact ⟨_, Confined.refl s⟩

/-- From `s` to `t` the open of picture `n` has reached the TCU, the FSC and the TKC, and no other block that has no
part in it (R29). -/
structure State.OpenReached (s t : State) (n : Nat) : Prop where
  tcu : t.tcu.noRecordRun = (s.tcu.opened n).noRecordRun
  newest : t.fsc.newest = some n
  lastOpen : t.tkc.lastOpen = some n
  others : t.dram = s.dram ∧ t.tc = s.tc ∧ t.du = s.du ∧ t.prs = s.prs ∧ t.scF = s.scF

theorem State.openPicture_reached (s : State) (q : BitVec 16) (dims : Option (Nat × Nat)) (openLost : Bool) :
    s.OpenReached (s.openPicture q dims openLost) s.ti.nextSource := by
  have hopen := s.openPicture_eq q dims openLost
  simp only [State.truncate_nextSource] at hopen
  refine ⟨?_, ?_, ?_, by simp⟩
  · rw [hopen, State.openEvent_noRecordRun]
    simp [State.withNextSource]
  · rw [hopen, State.openEvent_newest]
  · rw [hopen, State.openEvent_lastOpen]

/-- The receivers do not see the TI beside the number it gives them. -/
theorem State.OpenReached.of_ti {s t : State} {n : Nat} (ti : Ti) (h : State.OpenReached { s with ti := ti } t n) :
    s.OpenReached t n :=
  ⟨h.tcu, h.newest, h.lastOpen, h.others⟩

theorem State.OpenReached.currentTile {s t : State} {n : Nat} (h : s.OpenReached t n) (position : Nat)
    (samples : List Sample) : s.OpenReached (t.currentTile position samples) n := by
  obtain ⟨k, htile⟩ := t.currentTile_confined position samples
  exact ⟨by simpa using h.tcu, htile.newest.trans h.newest, htile.lastOpen.trans h.lastOpen, by simpa using h.others⟩

/-- A packet of a new picture brings its open about (R23, R24, R35). -/
theorem exec_openReached {s : State} {q : BitVec 16} {c : Instr}
    (hnew : s.ti.status = .idle ∨ (q ≠ s.ti.linkSeq ∧ q ≠ s.ti.linkSeq - 1))
    (hc : (∃ w h, c = .openPacket q q w h) ∨
      (∃ position bytes, c = .tilePacket q position bytes ∧ bytes.length = 1280)) :
    ∃ t, exec c s = .next t ∧ s.OpenReached t s.ti.nextSource := by
  have hsort := Ti.sort_of_new hnew
  obtain ⟨w, h, rfl⟩ | ⟨position, bytes, rfl, hbytes⟩ := hc
  · refine ⟨_, congrArg Host.Outcome.next (State.takeOpen_of_fresh w h hsort), ?_⟩
    exact State.OpenReached.of_ti _ (s.goodHeader.openPicture_reached ..)
  · refine ⟨_, congrArg Host.Outcome.next (State.takeTile_of_fresh position hbytes hsort), ?_⟩
    refine State.OpenReached.currentTile ?_ ..
    exact State.OpenReached.of_ti _ (State.openPicture_reached ..)

/-! ## The lane senders (R171) -/

theorem LaneSender.stallDue_of_none {x : LaneSender} (h : x.stallLatch = true ∨ x.stall < 32) : x.stallDue = none := by
  have hnot : ¬ (32 ≤ x.stall ∧ x.stallLatch = false) := by
    rintro ⟨hlong, hclear⟩
    obtain hlatch | hshort := h
    · simp [hclear] at hlatch
    · omega
  exact if_neg hnot

theorem LaneSender.stallDue_of_unit {x : LaneSender} {st : Stream} {source : Nat} {rest : List Item}
    (hstall : 32 ≤ x.stall) (hlatch : x.stallLatch = false) (hitems : x.items = .unit st source :: rest) :
    x.stallDue = some (st, source) := by
  simp [LaneSender.stallDue, hstall, hlatch, hitems]

theorem State.takeStall_of_none {s : State} {l : LaneId} (h : (s.lane l).stallDue = none) : s.takeStall l = s := by
  simp [State.takeStall, h]

theorem State.countOpen_of_none {s : State} {l : LaneId}
    (h : (s.lane l).noteOpen.stallLatch = true ∨ (s.lane l).noteOpen.stall < 32) :
    s.countOpen l = s.setLane l (s.lane l).noteOpen :=
  State.takeStall_of_none (by rw [State.lane_setLane]; exact LaneSender.stallDue_of_none h)

/-- Settles O18: the open at its receivers, and a lane by whether it waits and whether its stall is due. -/
theorem openEventReachesItsReceivers : Obligations.OpenEventReachesItsReceivers := by
  refine ⟨fun s q c hnew hc => ?_, fun s l => ⟨fun hwaiting hstall => ?_, fun hwaiting hstall => ?_,
    fun st source rest hwaiting hlatch hstall hitems => ?_⟩⟩
  · obtain ⟨t, ht, hreached⟩ := exec_openReached hnew hc
    obtain ⟨hlastOpen, hlabel, hfreeRun, halign, hpulse, hrepeats⟩ := s.tcu.opened_label s.ti.nextSource
    obtain ⟨hpresent, hloss, hlosses⟩ := s.tcu.opened_watch s.ti.nextSource
    have htcu := hreached.tcu
    exact ⟨t, ht, (congrArg Tcu.lastOpen htcu :).trans hlastOpen, (congrArg Tcu.labelTaken htcu :).trans hlabel,
      (congrArg Tcu.freeRun htcu :).trans hfreeRun, (congrArg Tcu.alignAwaiting htcu :).trans halign,
      (congrArg Tcu.opensSincePulse htcu :).trans hpulse, (congrArg Tcu.refPresent htcu :).trans hpresent,
      (congrArg Tcu.opensSinceLoss htcu :).trans hloss,
      (congrArg (fun t : Tcu => t.counters.refLosses) htcu :).trans hlosses,
      (congrArg (fun t : Tcu => t.counters.stampRepeats) htcu :).trans hrepeats,
      hreached.newest, hreached.lastOpen, hreached.others⟩
  · have hnote : (s.lane l).noteOpen = s.lane l := by simp [LaneSender.noteOpen, hwaiting]
    rw [State.countOpen_of_none (by rwa [hnote]), hnote, State.setLane_lane]
  · have hnote : (s.lane l).noteOpen = { s.lane l with stall := add16 (s.lane l).stall 1 } := if_pos hwaiting
    rw [State.countOpen_of_none, hnote]
    · rfl
    · rw [hnote]
      exact hstall.imp_right fun h => (Nat.min_le_left ..).trans_lt h
  · have hnote : (s.lane l).noteOpen = { s.lane l with stall := 32 } := by
      simp [LaneSender.noteOpen, hwaiting, hstall, add16]
    have hdue : ({ s.lane l with stall := 32 } : LaneSender).stallDue = some (st, source) :=
      LaneSender.stallDue_of_unit (Nat.le_refl _) hlatch hitems
    simp only [State.countOpen, State.takeStall, State.lane_setLane, hnote, hdue, State.setLane_setLane]
    rfl

end Sys2Proof.Machine
end

section
/-! The Proxy Scaler: the rounded mean of a block (R44), the slots (R49), and the selection test (R40 to R43). -/

namespace Sys2Proof.Machine

/-! ## The rounded mean (R44) -/

theorem boxValue_mul_le (k sum : Nat) : boxValue k sum * (k * k) ≤ sum + k * k / 2 := Nat.div_mul_le_self ..

theorem lt_boxValue_succ_mul {k : Nat} (hk : 1 ≤ k) (sum : Nat) :
    sum + k * k / 2 < (boxValue k sum + 1) * (k * k) :=
  Nat.lt_mul_of_div_lt (Nat.lt_succ_self _) (Nat.mul_pos hk hk)

/-- Half a step is not enough to pass a whole value: the mean of samples up to `v` is at most `v`. -/
theorem boxValue_le {k sum v : Nat} (hk : 1 ≤ k) (h : sum ≤ v * (k * k)) : boxValue k sum ≤ v := by
  have hsquare : 0 < k * k := Nat.mul_pos hk hk
  refine Nat.le_of_lt_succ (Nat.div_lt_of_lt_mul ?_)
  calc sum + k * k / 2 < v * (k * k) + k * k := by omega
    _ = k * k * (v + 1) := by ring

/-- Settles O25: the floor of R44's quotient, between its two multiples of k squared. -/
theorem boxValueIsTheRoundedMean : Obligations.BoxValueIsTheRoundedMean := by
  intro k sum hk
  have hle := boxValue_mul_le k sum
  have hlt := lt_boxValue_succ_mul hk sum
  have hlow : (2 * boxValue k sum + 1) * (k * k) = 2 * (boxValue k sum * (k * k)) + k * k := by ring
  have hhigh : 2 * boxValue k sum * (k * k) = 2 * (boxValue k sum * (k * k)) := by ring
  rw [Nat.succ_mul] at hlt
  exact ⟨by omega, by omega, boxValue_le hk⟩

/-! ## The slots (R49) -/

theorem Ps.place_of_slot1_free {p : Ps} (h : p.slot1 = none) (r : ProxyRow) :
    p.place r = some { p with slot1 := some r, slot2Older := p.slot2.isSome } := by
  simp [Ps.place, h]

theorem Ps.place_of_slot2_free {p : Ps} {old : ProxyRow} (h1 : p.slot1 = some old) (h2 : p.slot2 = none)
    (r : ProxyRow) : p.place r = some { p with slot2 := some r, slot2Older := false } := by
  simp [Ps.place, h1, h2]

theorem Ps.place_of_full {p : Ps} (h1 : p.slot1.isSome = true) (h2 : p.slot2.isSome = true) (r : ProxyRow) :
    p.place r = none := by
  obtain ⟨x, hx⟩ := Option.isSome_iff_exists.1 h1
  obtain ⟨y, hy⟩ := Option.isSome_iff_exists.1 h2
  simp [Ps.place, hx, hy]

theorem State.rowComplete_of_full {s : State} (h1 : s.ps.slot1.isSome = true) (h2 : s.ps.slot2.isSome = true)
    (c : Scaled) : s.rowComplete c = s.abandon c.source s.ps.row := by
  simp [State.rowComplete, Ps.place_of_full h1 h2]

/-- Settles O24, by which of the slots are free. -/
theorem completedRowTakesAFreeSlot : Obligations.CompletedRowTakesAFreeSlot := by
  intro p r
  refine ⟨fun h1 h2 => ?_, fun old h1 h2 => ?_, fun old h1 h2 => ?_, fun s c hp h1 h2 => ?_, fun s hp => ?_⟩
  · exact ⟨_, Ps.place_of_slot1_free h1 r, rfl, h2, by simp [Ps.older, h2]⟩
  · exact ⟨_, Ps.place_of_slot1_free h1 r, rfl, h2, by simp [Ps.older, h2]⟩
  · exact ⟨_, Ps.place_of_slot2_free h1 h2 r, h1, rfl, by simp [Ps.older, h1]⟩
  · subst hp
    exact ⟨Ps.place_of_full h1 h2 r, State.rowComplete_of_full h1 h2 c⟩
  · subst hp
    rfl

/-! ## The selection test (R40 to R43) -/

@[simp] theorem Ps.adopt_counters (p : Ps) (effective : Option ProfileRec) :
    (p.adopt effective).counters = p.counters := by
  unfold Ps.adopt
  split <;> rfl

@[simp] theorem Ps.align_counters (p : Ps) (request : Bool) : (p.align request).counters = p.counters := by
  cases request <;> rfl

theorem Ps.advancePhase_of_none {p : Ps} (h : p.validAdopted = none) : p.advancePhase.phase = 0 := by
  simp [Ps.advancePhase, h]

theorem Ps.advancePhase_of_some {p : Ps} {r : ProfileRec} (h : p.validAdopted = some r) :
    p.advancePhase.phase = (p.phase + 1) % r.decimation := by
  simp [Ps.advancePhase, h]

section
variable {s : State} {source : Nat} {align : Bool} {p : Ps}

/-- A picture that the test does not select leaves the PS IDLE behind the advanced phase. -/
theorem State.psOpen_of_unselected (hp : p = (s.ps.adopt (s.prs.p.profileAt source)).align align)
    (h : p.selects = false) (kept : Bool) :
    (s.psOpen source kept align).ps = p.advancePhase.rest ∧ (s.psOpen source kept align).scP = s.scP := by
  simp only [State.psOpen, ← hp, h]
  cases kept <;> exact ⟨rfl, rfl⟩

theorem State.psOpen_of_selected (hp : p = (s.ps.adopt (s.prs.p.profileAt source)).align align)
    {r : ProfileRec} (hr : p.validAdopted = some r) (hphase : p.phase = 0) :
    (s.psOpen source true align).ps = p.advancePhase.begin source r := by
  have hselects : p.selects = true := by simp [Ps.selects, hr, hphase]
  simp only [State.psOpen, ← hp, hselects, if_true, hr]
  rfl

theorem State.psOpen_of_selected_dropped (hp : p = (s.ps.adopt (s.prs.p.profileAt source)).align align)
    {r : ProfileRec} (hr : p.validAdopted = some r) (hphase : p.phase = 0) :
    (s.psOpen source false align).ps = { p.advancePhase.rest with
      counters := { p.counters with selectedDrops := bump p.counters.selectedDrops } } ∧
    (s.psOpen source false align).scP = { s.scP with gap := add16 s.scP.gap 1 } := by
  have hselects : p.selects = true := by simp [Ps.selects, hr, hphase]
  simp only [State.psOpen, ← hp, hselects, if_true, hr]
  exact ⟨rfl, rfl⟩

end

/-- Settles O23: the test of R41 by the adopted record and the phase, then by whether the picture is kept. -/
theorem selectionTestFollowsThePhase : Obligations.SelectionTestFollowsThePhase := by
  intro s source kept align p hp
  have hcounters : p.counters = s.ps.counters := by simp [hp]
  refine ⟨fun hnone => ?_, fun r hr => ?_⟩
  · obtain ⟨hps, hscP⟩ := State.psOpen_of_unselected hp (by simp [Ps.selects, hnone]) kept
    rw [hps]
    exact ⟨Ps.advancePhase_of_none hnone, rfl, hscP⟩
  have hnext := Ps.advancePhase_of_some hr
  by_cases hphase : p.phase = 0
  · cases kept with
    | true =>
      rw [State.psOpen_of_selected hp hr hphase]
      exact ⟨hnext, fun _ _ => ⟨rfl, rfl, rfl, by rw [← hcounters]; rfl⟩, by simp, fun h => absurd hphase h⟩
    | false =>
      obtain ⟨hps, hscP⟩ := State.psOpen_of_selected_dropped hp hr hphase
      rw [hps]
      exact ⟨hnext, by simp, fun _ _ => ⟨rfl, hscP, by rw [← hcounters]⟩, fun h => absurd hphase h⟩
  · obtain ⟨hps, hscP⟩ := State.psOpen_of_unselected hp (by simp [Ps.selects, hphase]) kept
    rw [hps]
    exact ⟨hnext, fun h => absurd h hphase, fun h => absurd h hphase, fun _ => ⟨rfl, hscP⟩⟩

end Sys2Proof.Machine
end

section
/-! RESTART of stream P: what the PS does at once (R54), and what the posting of the request does with SC-P (R65,
R183). -/

namespace Sys2Proof.Machine

/-! ## Reading back working sets and slots -/

theorem State.ws_congr {s t : State} {st : Stream} (htc : t.tc = s.tc) (hctx : (t.ctx st).ws = (s.ctx st).ws) :
    t.ws st = s.ws st := by
  simp [State.ws, htc, hctx]

@[simp] theorem State.setWs_p_scF (s : State) (w : WorkingSet) : (s.setWs .p w).scF = s.scF := by
  unfold State.setWs
  split <;> rfl

@[simp] theorem State.setWs_p_restart (s : State) (w : WorkingSet) :
    (s.setWs .p w).scP.restart = s.scP.restart := by
  unfold State.setWs
  split <;> rfl

theorem Ps.slot_setSlot_ne (p : Ps) {i j : SlotId} (h : i ≠ j) (x : Option ProxyRow) :
    (p.setSlot i x).slot j = p.slot j := by
  cases i with
  | one => cases j with
    | one => exact absurd rfl h
    | two => rfl
  | two => cases j with
    | one => rfl
    | two => exact absurd rfl h

theorem State.emptySlot_slot_same (s : State) (i : SlotId) :
    (s.emptySlot i).ps.slot i = if s.slotTaken i then s.ps.slot i else none := by
  unfold State.emptySlot
  split
  · rfl
  · exact Ps.slot_setSlot ..

theorem State.emptySlot_slot_ne (s : State) {i j : SlotId} (h : i ≠ j) : (s.emptySlot i).ps.slot j = s.ps.slot j := by
  unfold State.emptySlot
  split
  · rfl
  · exact Ps.slot_setSlot_ne _ h _

@[simp] theorem State.slotTaken_emptySlot (s : State) (i j : SlotId) : (s.emptySlot i).slotTaken j = s.slotTaken j := by
  simp [State.slotTaken]

theorem State.emptySlot_ps_frame (s : State) (i : SlotId) :
    (s.emptySlot i).ps.phase = s.ps.phase ∧ (s.emptySlot i).ps.adopted = s.ps.adopted ∧
    (s.emptySlot i).ps.counters = s.ps.counters ∧ (s.emptySlot i).ps.mode = s.ps.mode := by
  unfold State.emptySlot
  split
  · exact ⟨rfl, rfl, rfl, rfl⟩
  · cases i <;> exact ⟨rfl, rfl, rfl, rfl⟩

/-! ## The PS's side (R54) -/

/-- The PS after its side of a RESTART, over the slots that no begun turn holds emptied. -/
theorem State.restartPs_ps (s : State) :
    s.restartPs.ps = { ((s.emptySlot .one).emptySlot .two).ps with
      band := {}, mode := if s.ps.mode = .scaling then .ignoring else s.ps.mode } := by
  obtain ⟨-, -, -, hmode1⟩ := s.emptySlot_ps_frame .one
  obtain ⟨-, -, -, hmode2⟩ := (s.emptySlot .one).emptySlot_ps_frame .two
  simp only [State.restartPs]
  rw [foldl_frame State.ps State.loseProxy (by simp), hmode2.trans hmode1]
  cases s.ps.mode <;> rfl

theorem State.restartPs_scaler (s : State) :
    s.restartPs.ps.band = {} ∧ s.restartPs.ps.phase = s.ps.phase ∧ s.restartPs.ps.adopted = s.ps.adopted ∧
    s.restartPs.ps.counters = s.ps.counters ∧
    s.restartPs.ps.mode = if s.ps.mode = .scaling then .ignoring else s.ps.mode := by
  obtain ⟨hphase1, hadopted1, hcounters1, -⟩ := s.emptySlot_ps_frame .one
  obtain ⟨hphase2, hadopted2, hcounters2, -⟩ := (s.emptySlot .one).emptySlot_ps_frame .two
  rw [State.restartPs_ps]
  exact ⟨rfl, hphase2.trans hphase1, hadopted2.trans hadopted1, hcounters2.trans hcounters1, rfl⟩

theorem State.restartPs_slot (s : State) (i : SlotId) :
    s.restartPs.ps.slot i = if s.slotTaken i then s.ps.slot i else none := by
  have hslot : s.restartPs.ps.slot i = ((s.emptySlot .one).emptySlot .two).ps.slot i := by
    rw [State.restartPs_ps]
    cases i <;> rfl
  rw [hslot]
  cases i with
  | one => rw [State.emptySlot_slot_ne _ (by decide), State.emptySlot_slot_same]
  | two => rw [State.emptySlot_slot_same, State.slotTaken_emptySlot, State.emptySlot_slot_ne _ (by decide)]

theorem State.loseProxy_fifo (s : State) (source : Nat) : (s.loseProxy source).ti.fifo = s.ti.fifo :=
  (congrArg Ti.fifo ((State.TiKept.of_ti (s := s) rfl).loseProxy source).noTable :)

theorem State.loseProxy_scP (s : State) (source : Nat) :
    (s.loseProxy source).scP = { s.scP with gap := add16 s.scP.gap 1 } := by
  simp [State.loseProxy, State.addProxyGap]

theorem State.restartPs_fifo (s : State) : s.restartPs.ti.fifo = s.ti.fifo := by
  simp only [State.restartPs]
  rw [foldl_frame (fun u : State => u.ti.fifo) State.loseProxy State.loseProxy_fifo]
  simp

theorem State.restartPs_ws (s : State) : s.restartPs.ws .p = s.ws .p := by
  refine State.ws_congr (by simp) ?_
  simp only [State.restartPs, State.ctx_p]
  rw [foldl_frame (fun u : State => u.scP.ws) State.loseProxy (by simp [State.loseProxy_scP])]
  simp

/-! ## The request and its reply (R65, R183) -/

@[simp] theorem State.keepReply_fifo (s : State) (st : Stream) (d : Directive) :
    (s.keepReply st d).du.fifo = s.du.fifo := by
  unfold State.keepReply
  split
  · cases st <;> rfl
  · rfl

theorem State.keepReply_waitP {s : State} (h : s.du.waitP.length < 8) (d : Directive) :
    (s.keepReply .p d).du.waitP = s.du.waitP ++ [⟨d.tag, d.cls⟩] := by
  simp [State.keepReply, State.waitList, State.setWaitList, h]

/-- The request of a RESTART in SC-P's set, behind the PS's side and the reply that waits. -/
def State.requestRestartP (s : State) (d : Directive) : State :=
  (s.restartPs.keepReply .p d).setCtx .p { (s.restartPs.keepReply .p d).ctx .p with restart := true }

theorem State.requestRestartP_frame (s : State) (d : Directive) :
    (s.requestRestartP d).ps = s.restartPs.ps ∧ (s.requestRestartP d).ti.fifo = s.ti.fifo ∧
    (s.requestRestartP d).ws .p = s.ws .p ∧ (s.requestRestartP d).du.fifo = s.du.fifo ∧
    (s.requestRestartP d).scF = s.scF := by
  refine ⟨?_, ?_, ?_, ?_, ?_⟩
  · simp [State.requestRestartP]
  · simp [State.requestRestartP, State.restartPs_fifo]
  · refine (State.ws_congr ?_ ?_).trans s.restartPs_ws <;> simp [State.requestRestartP]
  · simp [State.requestRestartP]
  · simp [State.requestRestartP]

theorem State.postRestart_p (s : State) (d : Directive) :
    s.postRestart .p d = if (s.ws .p).state = .inactive then (s.requestRestartP d).applyRestartInactive .p
      else s.requestRestartP d := by
  obtain ⟨-, -, hws, -, -⟩ := s.requestRestartP_frame d
  rw [← hws]
  rfl

theorem State.answerRestarts_p_du (s : State) (cancelled : Option Nat) :
    (s.answerRestarts .p cancelled).du = { s.du with waitP := [] } := by
  simp [State.answerRestarts, State.setWaitList]

theorem State.answerRestarts_p_ws (s : State) (cancelled : Option Nat) :
    (s.answerRestarts .p cancelled).ws .p = s.ws .p := State.ws_congr (by simp) (by simp)

/-- What an INACTIVE SC-P makes of the request: its set and its working set restarted, and every waiting RESTART
answered. -/
theorem State.applyRestartInactive_p (s : State) :
    (s.applyRestartInactive .p).du = { s.du with waitP := [] } ∧
    (s.applyRestartInactive .p).ws .p = { s.ws .p with q := s.prs.p.startRung, debt := 0 } ∧
    (s.applyRestartInactive .p).scP.restart = false ∧ (s.applyRestartInactive .p).scF = s.scF := by
  have hws : (s.setCtx .p (((s.ctx .p).clearForRestart (s.ctx .p).abandon (s.tables .p).hasPending).countRestart)).ws
      .p = s.ws .p := State.ws_congr rfl rfl
  refine ⟨?_, ?_, ?_, ?_⟩
  · simp [State.applyRestartInactive, State.answerRestarts_p_du]
  · simp only [State.applyRestartInactive]
    rw [State.answerRestarts_p_ws, State.ws_setWs, hws]
    rfl
  · simp [State.applyRestartInactive, Ctx.countRestart, Ctx.clearForRestart]
  · simp [State.applyRestartInactive]

theorem exec_restart_p {s : State} {d : Directive} {rest : List Directive} (h : s.accepts .restart d rest)
    (hst : fieldAt d.args 0 1 = 1) :
    exec .restart s = .next ((s.countTaken .restart).postRestart .p d).popDirective := by
  obtain ⟨hfifo, hcode, hcheck⟩ := h
  show Host.Outcome.next s.restartDirective = _
  simp [State.restartDirective, hfifo, hcode, hcheck, hst, streamOf]

/-- What the posting in `s` leaves in `t`, whether SC-P applies the request at once or keeps it. -/
structure State.RestartPosted (s t : State) : Prop where
  ps : t.ps = s.restartPs.ps
  directives : t.du.fifo = s.du.fifo
  state : (t.ws .p).state = (s.ws .p).state
  picture : (t.ws .p).picture = (s.ws .p).picture
  restart : t.scP.restart = decide ((s.ws .p).state ≠ .inactive)
  scF : t.scF = s.scF
  prs : t.prs = s.prs
  tcu : t.tcu = s.tcu
  dram : t.dram = s.dram
  entries : t.ti.fifo = s.ti.fifo

theorem State.postRestart_p_posted (s : State) (d : Directive) : s.RestartPosted (s.postRestart .p d) := by
  obtain ⟨hprs, htcu, hdram, -⟩ := s.postRestart_frame .p d
  obtain ⟨hps, hti, hws, hfifo, hscF⟩ := s.requestRestartP_frame d
  have hposted := s.postRestart_p d
  by_cases hstate : (s.ws .p).state = .inactive
  · obtain ⟨hdu', hws', hrestart', hscF'⟩ := (s.requestRestartP d).applyRestartInactive_p
    rw [if_pos hstate] at hposted
    rw [← hposted] at hdu' hws' hrestart' hscF'
    rw [hws] at hws'
    exact ⟨by rw [hposted]; simpa using hps, by rw [hdu']; exact hfifo, by rw [hws'], by rw [hws'],
      by simp [hrestart', hstate], hscF'.trans hscF, hprs, htcu, hdram, by rw [hposted]; simpa using hti⟩
  · rw [if_neg hstate] at hposted
    rw [hposted] at hprs htcu hdram ⊢
    exact ⟨hps, hfifo, by rw [hws], by rw [hws], (decide_eq_true hstate).symm, hscF, hprs, htcu, hdram, hti⟩

theorem State.postRestart_p_waitP {s : State} (d : Directive) (hstate : (s.ws .p).state ≠ .inactive)
    (hroom : s.du.waitP.length < 8) : (s.postRestart .p d).du.waitP = s.du.waitP ++ [⟨d.tag, d.cls⟩] := by
  have hdu : s.restartPs.du = s.du := by simp
  have hkept := State.keepReply_waitP (s := s.restartPs) (by rwa [hdu]) d
  rw [State.postRestart_p, if_neg hstate]
  rwa [hdu] at hkept

theorem State.postRestart_p_applied {s : State} (d : Directive) (hstate : (s.ws .p).state = .inactive) :
    (s.postRestart .p d).du.waitP = [] ∧ ((s.postRestart .p d).ws .p).debt = 0 := by
  obtain ⟨hdu, hws, -, -⟩ := (s.requestRestartP d).applyRestartInactive_p
  rw [State.postRestart_p, if_pos hstate, hdu, hws]
  exact ⟨rfl, rfl⟩

/-- Settles O59: the PS's side of the restart and what its posting leaves; the DU's count of the directive before it and
the removal of the directive behind it write the DU alone. -/
theorem restartOfStreamPClearsTheScaler : Obligations.RestartOfStreamPClearsTheScaler := by
  intro s d rest haccepts hst
  have hexec := exec_restart_p haccepts hst
  obtain ⟨hhead, -, -⟩ := haccepts
  obtain ⟨hband, hphase, hadopted, hcounters, hmode⟩ := (s.countTaken .restart).restartPs_scaler
  have hslot := (s.countTaken .restart).restartPs_slot
  have hposted := (s.countTaken .restart).postRestart_p_posted d
  have hkept := State.postRestart_p_waitP (s := s.countTaken .restart) d
  have happlied := State.postRestart_p_applied (s := s.countTaken .restart) d
  rw [← hposted.ps] at hband hphase hadopted hcounters hmode hslot
  generalize (s.countTaken .restart).postRestart .p d = t at *
  have hrest : t.popDirective.du.fifo = rest := congrArg List.tail (hposted.directives.trans hhead)
  exact ⟨t.popDirective, hexec, hrest, hband, hphase, hadopted, hcounters, hmode, hslot, hposted.state,
    hposted.picture, hposted.restart, hkept, happlied, hposted.scF, hposted.prs, hposted.tcu, hposted.dram,
    hposted.entries⟩

end Sys2Proof.Machine
end

section
/-! CODE_TILE: the coded tile (R70, R87 to R89), the position it takes, the end of a row (R69, R80 to R82, R102) and of
a picture (R72, R84, R92, R93). -/

namespace Sys2Proof.Machine

/-! ## The coded tile (R70, R87 to R89) -/

/-- Four samples pack into 5 bytes. -/
theorem packSamples_length : ∀ {n : Nat} {x : List Sample}, x.length = 4 * n → (packSamples x).length = 5 * n
  | 0, [], _ => rfl
  | n + 1, _ :: _ :: _ :: _ :: rest, h => by
    have hrest : rest.length = 4 * n := by
      simp only [List.length_cons] at h
      omega
    simp only [packSamples, List.length_cons, packSamples_length hrest]
    omega

theorem tilePayloadBytes_length {k : TileKind} {x : Option (List Sample)} (hx : ∀ y, x = some y → y.length = 1024)
    (hraw : k = .raw → x ≠ none) (step tick : Nat) :
    (tilePayloadBytes k x step tick).length = tilePayload k x step := by
  cases k with
  | compressed => simp [tilePayloadBytes, tilePayload]
  | flat | concealed => simp [tilePayloadBytes, tilePayload, meansPayload]
  | raw =>
    obtain ⟨y, rfl⟩ := Option.ne_none_iff_exists'.1 (hraw rfl)
    exact packSamples_length (n := 256) (hx y rfl)

theorem tileBytes_length {k : TileKind} {x : Option (List Sample)} (hx : ∀ y, x = some y → y.length = 1024)
    (hraw : k = .raw → x ≠ none) (step position tick : Nat) :
    (tileBytes k x step position tick).length = tileSize k x step := by
  simp only [tileBytes, List.length_append, be_length, tilePayloadBytes_length hx hraw, tileSize]

theorem tileKind_eq_concealed_iff {x : Option (List Sample)} {latch passes : Bool} {step : Nat} :
    tileKind x latch passes step = .concealed ↔ x = none := by
  cases x with
  | none => simp [tileKind]
  | some y => simp only [tileKind]; split_ifs <;> simp

theorem tileKind_eq_flat_iff {x : Option (List Sample)} {latch passes : Bool} {step : Nat} :
    tileKind x latch passes step = .flat ↔ x ≠ none ∧ (latch = true ∨ passes = false) := by
  cases x with
  | none => simp [tileKind]
  | some y => simp only [tileKind]; split_ifs <;> simp_all

theorem tileKind_compressed {x : Option (List Sample)} {latch passes : Bool} {step : Nat}
    (h : tileKind x latch passes step = .compressed) : ∃ y, x = some y ∧ compressedPayload y step ≤ 1272 := by
  cases x with
  | none => simp [tileKind] at h
  | some y => simp only [tileKind] at h; split_ifs at h with _ hfits; exact ⟨y, rfl, hfits⟩

theorem tileKind_raw {x : Option (List Sample)} {latch passes : Bool} {step : Nat}
    (h : tileKind x latch passes step = .raw) : ∃ y, x = some y ∧ 1272 < compressedPayload y step := by
  cases x with
  | none => simp [tileKind] at h
  | some y => simp only [tileKind] at h; split_ifs at h with _ hfits; exact ⟨y, rfl, not_le.1 hfits⟩

theorem ceilingTest_eq_false_iff {coded left ceilingC : Nat} :
    ceilingTest coded left ceilingC = false ↔ ceilingC < coded + 1288 + 16 * (left - 1) := by
  simp [ceilingTest]

/-! ## Rung and debt (R80 to R82, R84) -/

theorem ProfileRec.selectRung_of_dead {p : ProfileRec} {row coded q : Nat} {debt : Int}
    (h : 2 * (p.deviation row coded debt).natAbs < p.rowTarget) : p.selectRung row coded debt q = (q, false) := if_pos h

/-- The rung that a row outside the dead band asks for, before the clamp. -/
def ProfileRec.askedRung (p : ProfileRec) (row coded : Nat) (debt : Int) (q : Nat) : Int :=
  movedRung q (p.strideFor (p.deviation row coded debt).natAbs) (decide (0 < p.deviation row coded debt))

theorem ProfileRec.selectRung_of_moved {p : ProfileRec} {row coded q : Nat} {debt : Int}
    (h : p.rowTarget ≤ 2 * (p.deviation row coded debt).natAbs) :
    p.selectRung row coded debt q =
      (p.clampRung (p.askedRung row coded debt q), p.saturates (p.askedRung row coded debt q)) :=
  if_neg (not_lt.2 h)

theorem ProfileRec.clampRung_mem {p : ProfileRec} (hwindow : p.qlo ≤ p.qhi) (x : Int) :
    p.qlo ≤ p.clampRung x ∧ p.clampRung x ≤ p.qhi := by
  unfold ProfileRec.clampRung
  split_ifs <;> omega

/-- A rung selected from inside the window stays inside it. -/
theorem ProfileRec.selectRung_mem {p : ProfileRec} {q : Nat} (hlo : p.qlo ≤ q) (hhi : q ≤ p.qhi) (row coded : Nat)
    (debt : Int) : p.qlo ≤ (p.selectRung row coded debt q).1 ∧ (p.selectRung row coded debt q).1 ≤ p.qhi := by
  rcases lt_or_ge (2 * (p.deviation row coded debt).natAbs) p.rowTarget with hdead | hmoved
  · rw [ProfileRec.selectRung_of_dead hdead]
    exact ⟨hlo, hhi⟩
  · rw [ProfileRec.selectRung_of_moved hmoved]
    exact ProfileRec.clampRung_mem (hlo.trans hhi) _

/-- A moved rung falls below, above or inside the window (R82). -/
theorem ProfileRec.clamp_cases (p : ProfileRec) (m : Int) :
    (m < p.qlo → (p.clampRung m, p.saturates m) = (p.qlo, true)) ∧
    (p.qlo ≤ m → (p.qhi : Int) < m → (p.clampRung m, p.saturates m) = (p.qhi, true)) ∧
    (p.qlo ≤ m → m ≤ p.qhi → (p.clampRung m, p.saturates m) = (m.toNat, false)) := by
  refine ⟨fun hlow => ?_, fun hlo hhigh => ?_, fun hlo hhi => ?_⟩
  · simp [ProfileRec.clampRung, ProfileRec.saturates, hlow]
  · simp [ProfileRec.clampRung, ProfileRec.saturates, not_lt.2 hlo, hhigh]
  · simp [ProfileRec.clampRung, ProfileRec.saturates, not_lt.2 hlo, not_lt.2 hhi]

/-- The debt of R84 falls below, above or inside the bounds, and the clamp is counted. -/
theorem ProfileRec.debt_cases (p : ProfileRec) (d : Int) :
    (d < -(p.target : Int) → p.clampDebt d = -(p.target : Int)) ∧
    ((p.target : Int) < d → p.clampDebt d = p.target) ∧
    (-(p.target : Int) ≤ d → d ≤ p.target → p.clampDebt d = d) := by
  unfold ProfileRec.clampDebt
  refine ⟨fun hlow => if_pos hlow, fun hhigh => ?_, fun hlo hhi => ?_⟩
  · rw [if_neg (by omega), if_pos hhigh]
  · rw [if_neg (not_lt.2 hlo), if_neg (not_lt.2 hhi)]

theorem ProfileRec.debtClamps_iff {p : ProfileRec} {d : Int} :
    p.debtClamps d = true ↔ d < -(p.target : Int) ∨ (p.target : Int) < d := by
  simp [ProfileRec.debtClamps]

/-! ## The position that is taken (R69) -/

theorem State.ws_of_loaded {s : State} {st : Stream} (h : s.tc.loaded = some st) : s.ws st = s.tc.ws := if_pos h

theorem State.setWs_of_loaded {s : State} {st : Stream} (h : s.tc.loaded = some st) (w : WorkingSet) :
    s.setWs st w = { s with tc := { s.tc with ws := w } } := if_pos h

theorem dropPositions_zero (l : List FifoEntry) : dropPositions 0 l = l := by
  rcases l with _ | ⟨_ | _ | _ | _, rest⟩ <;> simp [dropPositions]

theorem dropPositions_one_tile (position : Nat) (x : List Sample) (rest : List FifoEntry) :
    dropPositions 1 (.tileE position x :: rest) = rest := dropPositions_zero rest

theorem dropPositions_one_run {first count : Nat} (hcount : 1 ≤ count) (rest : List FifoEntry) :
    dropPositions 1 (.runE first count :: rest) =
      if count = 1 then rest else .runE (first + 1) (count - 1) :: rest := by
  by_cases hone : count = 1
  · subst hone
    exact dropPositions_zero rest
  · have hmore : ¬ count ≤ 1 := by omega
    simp [dropPositions, hone, hmore]

/-- The turn takes the position of samples `x` and leaves the Tile FIFO at `fifo`: the head TILE, one position of the
head RUN, or the next tile of the row a P turn took. -/
def State.TakesPosition (s : State) (t : Turn) (x : Option (List Sample)) (fifo : List FifoEntry) : Prop :=
  (t.stream = .f ∧ ∃ pos y rest, s.ti.fifo = .tileE pos y :: rest ∧ x = some y ∧ fifo = rest) ∨
  (t.stream = .f ∧ ∃ first count rest, s.ti.fifo = .runE first count :: rest ∧ 1 ≤ count ∧ x = none ∧
    fifo = if count = 1 then rest else .runE (first + 1) (count - 1) :: rest) ∨
  (t.stream = .p ∧ fifo = s.ti.fifo ∧ ∃ i row tile, t.slot = some i ∧ s.ps.slot i = some row ∧
    row.tiles[s.tc.ws.column]? = some tile ∧ x = if tile.concealed then none else some tile.samples)

/-- The Tile FIFO once a turn's stream has taken its position. -/
def State.entriesAfter (s : State) : Stream → List FifoEntry
  | .f => dropPositions 1 s.ti.fifo
  | .p => s.ti.fifo

section
variable {s : State} {t : Turn} {x : Option (List Sample)} {fifo : List FifoEntry}

theorem State.TakesPosition.entriesAfter (h : s.TakesPosition t x fifo) : s.entriesAfter t.stream = fifo := by
  obtain ⟨hst, pos, y, rest, hhead, -, rfl⟩ | ⟨hst, first, count, rest, hhead, hcount, -, rfl⟩ | ⟨hst, rfl, -⟩ := h
  · rw [hst, State.entriesAfter, hhead, dropPositions_one_tile]
  · rw [hst, State.entriesAfter, hhead, dropPositions_one_run hcount]
  · rw [hst, State.entriesAfter]

theorem State.TakesPosition.nextPiece (h : s.TakesPosition t x fifo) (hturn : s.tc.turn = some t)
    (hload : s.tc.loaded = some t.stream) : s.nextPiece t = some ⟨x⟩ := by
  obtain ⟨hst, pos, y, rest, hhead, rfl, -⟩ | ⟨hst, first, count, rest, hhead, -, rfl, -⟩ |
    ⟨hst, -, i, row, tile, hslot, hrow, htile, rfl⟩ := h
  · simp [State.nextPiece, hst, hhead]
  · simp [State.nextPiece, hst, hhead]
  · have hws : s.ws .p = s.tc.ws := State.ws_of_loaded (hst ▸ hload)
    simp [State.nextPiece, hst, State.takenRow, hturn, hslot, hrow, hws, htile]

end

/-! ## The position coded (R69, R70) -/

/-- The kind that the next position of a turn is coded with. -/
def State.kindAt (s : State) (t : Turn) (p : ProfileRec) (x : Option (List Sample)) : TileKind :=
  s.tc.ws.kindOf p ⟨x⟩ (s.rungStep t.stream)

/-- The bytes that the next position of a turn is coded to. -/
def State.tileAt (s : State) (t : Turn) (p : ProfileRec) (x : Option (List Sample)) : List Byte :=
  tileBytes (s.kindAt t p x) x (s.rungStep t.stream) (s.tc.ws.position p) s.freeTick

/-- The turn with the next position's bytes behind those of its row. -/
def State.turnAfter (s : State) (t : Turn) (p : ProfileRec) (x : Option (List Sample)) : Turn :=
  { t with rowBytes := t.rowBytes ++ s.tileAt t p x }

/-- The state once a turn has coded its next position, before the end of a row. -/
def State.positionCoded (s : State) (t : Turn) (p : ProfileRec) (x : Option (List Sample)) : State :=
  { s with
    ti := { s.ti with fifo := s.entriesAfter t.stream }
    tc := { s.tc with
      ws := s.tc.ws.afterTile p (s.kindAt t p x) (s.tileAt t p x).length, turn := some (s.turnAfter t p x) }
    freeTick := s.freeTick + 1 }

theorem State.tileAt_length {x : Option (List Sample)} (hx : ∀ y, x = some y → y.length = 1024) (s : State)
    (t : Turn) (p : ProfileRec) : (s.tileAt t p x).length = tileSize (s.kindAt t p x) x (s.rungStep t.stream) := by
  refine tileBytes_length hx (fun hraw => ?_) ..
  obtain ⟨y, hy, -⟩ := tileKind_raw hraw
  exact Option.ne_none_iff_exists'.2 ⟨y, hy⟩

theorem State.codePiece_eq {s : State} {t : Turn} {x : Option (List Sample)} (hload : s.tc.loaded = some t.stream)
    (hx : ∀ y, x = some y → y.length = 1024) (p : ProfileRec) :
    s.codePiece t p ⟨x⟩ = if s.tc.ws.column + 1 = p.tilesAcross
      then (s.positionCoded t p x).endRow (s.turnAfter t p x) p else s.positionCoded t p x := by
  have hsize := s.tileAt_length hx t p
  obtain ⟨st, handingOver, restart, abandon, activate, slot, rowBytes⟩ := t
  cases st with
  | f =>
    have hfifo := State.setWs_of_loaded (s := s.editFifo (dropPositions 1)) hload
    simp only [State.codePiece, State.positionCoded, State.ws_of_loaded hload, hfifo, hsize]
    rfl
  | p =>
    simp only [State.codePiece, State.positionCoded, State.ws_of_loaded hload, State.setWs_of_loaded hload, hsize]
    rfl

/-- CODE_TILE codes the position that the turn of a CODING context takes. -/
theorem exec_codeTile_eq {s : State} {t : Turn} {p : ProfileRec} {y : Piece} (hturn : s.tc.turn = some t)
    (hover : t.handingOver = false) (hload : s.tc.loaded = some t.stream) (hcoding : s.tc.ws.state = .coding)
    (hp : (s.tables t.stream).profile = some p) (hy : s.nextPiece t = some y) :
    exec .codeTile s = .next (s.codePiece t p y) := by
  show Host.Outcome.next s.codeTile = _
  simp [State.codeTile, hturn, hover, State.ws_of_loaded hload, hcoding, hp, hy]

/-! ## The end of a row (R69, R102) -/

/-- The PS with the slot that a turn took free. -/
def Ps.freed (p : Ps) : Option SlotId → Ps
  | some i => p.setSlot i none
  | none => p

theorem State.endTurn_eq {s : State} {t : Turn} (h : s.tc.turn = some t) :
    s.endTurn = { s with tc := { s.tc with turn := none }, ps := s.ps.freed t.slot } := by
  cases hslot : t.slot <;> simp [State.endTurn, h, hslot, Ps.freed]

/-- The state with a turn's row handed to the FSC, its rung selected and the next row begun. -/
def State.rowEnded (s : State) (t : Turn) (p : ProfileRec) : State :=
  { s.writeRow t.stream p.rows t.rowBytes with tc := { s.tc with ws := s.tc.ws.afterRow p } }

section
variable {s : State} {t : Turn} {p : ProfileRec}

theorem State.setWs_writeRow (hload : s.tc.loaded = some t.stream) :
    (s.writeRow t.stream p.rows t.rowBytes).setWs t.stream
      (((s.writeRow t.stream p.rows t.rowBytes).ws t.stream).afterRow p) = s.rowEnded t p := by
  obtain ⟨-, -, -, -, htc, -⟩ := s.writeRow_frame t.stream p.rows t.rowBytes
  rw [← htc] at hload
  rw [State.ws_of_loaded hload, State.setWs_of_loaded hload, htc, State.rowEnded]

/-- The last position of a row that is not the picture's last. -/
theorem State.endRow_continues (hload : s.tc.loaded = some t.stream) (hturn : s.tc.turn = some t)
    (hmore : s.tc.ws.row + 1 ≠ p.rows) : s.endRow t p = { s.writeRow t.stream p.rows t.rowBytes with
      tc := { s.tc with ws := s.tc.ws.afterRow p, turn := none }, ps := s.ps.freed t.slot } := by
  obtain ⟨-, -, -, hps, htc, -⟩ := s.writeRow_frame t.stream p.rows t.rowBytes
  have hrow : (((s.writeRow t.stream p.rows t.rowBytes).ws t.stream).afterRow p).row ≠ p.rows := by
    rwa [State.ws_of_loaded (by rwa [htc]), htc]
  simp only [State.endRow]
  rw [if_neg hrow, State.setWs_writeRow hload, State.endTurn_eq (s := s.rowEnded t p) hturn, State.rowEnded, hps]

theorem State.endRow_of_last (hload : s.tc.loaded = some t.stream) (hlast : s.tc.ws.row + 1 = p.rows) {n : Nat}
    (hpicture : s.tc.ws.picture = some n) :
    s.endRow t p = ((s.rowEnded t p).endPicture t.stream n p).endTurn := by
  obtain ⟨-, -, -, -, htc, -⟩ := s.writeRow_frame t.stream p.rows t.rowBytes
  have hws : (s.writeRow t.stream p.rows t.rowBytes).ws t.stream = s.tc.ws := by
    rw [State.ws_of_loaded (by rwa [htc]), htc]
  have hrow : (s.tc.ws.afterRow p).row = p.rows := hlast
  have hsame : (s.tc.ws.afterRow p).picture = some n := hpicture
  have hended := State.setWs_writeRow (p := p) hload
  rw [hws] at hended
  simp only [State.endRow, hws, if_pos hrow, hsame, hended]

end

/-! ## The end of a picture (R72, R84, R92, R93) -/

/-- The state that a picture's end hands to the FSC with the unit: END gone or the gap count taken, the debt updated,
the totals counted, the CEILING notice queued. -/
def State.pictureEnded (s : State) (st : Stream) (n : Nat) (p : ProfileRec) : State :=
  let w := s.tc.ws
  let clamped := p.debtClamps (p.rawDebt w.debt w.coded)
  { s with
    ti := { s.ti with fifo := match st with
      | .f => dropEnd s.ti.fifo
      | .p => s.ti.fifo }
    tc := { s.tc with ws := w.ended p }
    scF := match st with
      | .f => { s.scF with counters := s.scF.counters.addPicture w clamped }
      | .p => s.scF
    scP := match st with
      | .f => s.scP
      | .p => { s.scP with gap := 0, counters := s.scP.counters.addPicture w clamped }
    lsA := if 1 ≤ w.flats then
        s.lsA.enqueue 32 (.notice (.ceiling st n (w.firstFlat.getD 0) w.flats w.coded p.ceiling))
      else s.lsA }

theorem State.endPicture_eq {s : State} {st : Stream} (hload : s.tc.loaded = some st) (n : Nat) (p : ProfileRec) :
    s.endPicture st n p = (s.pictureEnded st n p).completeUnit st (s.completion st n p s.tc.ws) := by
  have hws := State.ws_of_loaded hload
  cases st with
  | f =>
    have hset := fun c => State.setWs_of_loaded (s := (s.editFifo dropEnd).setCtx .f c) hload
    simp only [State.endPicture, hws, hset, State.noteCeiling, State.pictureEnded]
    split <;> rfl
  | p =>
    have hset := fun c : Ctx => State.setWs_of_loaded (s := { s with scP := c }) hload
    simp only [State.endPicture, hws, State.setCtx_p, hset, State.noteCeiling, State.pictureEnded]
    split <;> rfl

theorem State.endTurn_completeUnit {s : State} {t : Turn} (hturn : s.tc.turn = some t) (st : Stream) (c : Completion) :
    (s.completeUnit st c).endTurn = { s.completeUnit st c with
      tc := { s.tc with turn := none }, ps := s.ps.freed t.slot } := by
  obtain ⟨-, -, hps, htc, -⟩ := s.completeUnit_frame st c
  rw [State.endTurn_eq (t := t) (by rwa [htc]), htc, hps]

theorem State.completion_rowEnded (s : State) (t : Turn) (st : Stream) (n : Nat) (p : ProfileRec) (w : WorkingSet) :
    (s.rowEnded t p).completion st n p w = s.completion st n p w := by
  obtain ⟨hti, -, -, -, -, -, hscP, -⟩ := s.writeRow_frame t.stream p.rows t.rowBytes
  simp only [State.completion, State.record, State.rowEnded, hti, hscP]

/-- A picture's end over its last row: what the row's writing changed stays, the rest is that of the state before. -/
theorem State.pictureEnded_rowEnded (s : State) (t : Turn) (n : Nat) (p : ProfileRec) {z : State}
    (hz : z = ({ s with tc := { s.tc with ws := s.tc.ws.afterRow p } } : State).pictureEnded t.stream n p) :
    (s.rowEnded t p).pictureEnded t.stream n p = { s.writeRow t.stream p.rows t.rowBytes with
      ti := z.ti, tc := z.tc, scF := z.scF, scP := z.scP, lsA := z.lsA } := by
  obtain ⟨hti, -, -, -, -, hscF, hscP, -, -, hlsA, -⟩ := s.writeRow_frame t.stream p.rows t.rowBytes
  simp only [hz, State.pictureEnded, State.rowEnded, hti, hscF, hscP, hlsA]

/-- The last position of a picture: the turn ends behind the unit's completion. -/
theorem State.endRow_completes {s : State} {t : Turn} {p : ProfileRec} (hload : s.tc.loaded = some t.stream)
    (hturn : s.tc.turn = some t) (hlast : s.tc.ws.row + 1 = p.rows) {n : Nat} (hpicture : s.tc.ws.picture = some n) :
    s.endRow t p = { ((s.rowEnded t p).pictureEnded t.stream n p).completeUnit t.stream
        (s.completion t.stream n p (s.tc.ws.afterRow p)) with
      tc := { s.tc with ws := (s.tc.ws.afterRow p).ended p, turn := none }, ps := s.ps.freed t.slot } := by
  obtain ⟨-, -, -, hps, -⟩ := s.writeRow_frame t.stream p.rows t.rowBytes
  have hfreed : ((s.rowEnded t p).pictureEnded t.stream n p).ps = s.ps := hps
  rw [State.endRow_of_last hload hlast hpicture, State.endPicture_eq (s := s.rowEnded t p) hload,
    State.completion_rowEnded, State.endTurn_completeUnit (s := (s.rowEnded t p).pictureEnded t.stream n p) hturn,
    hfreed]
  rfl

/-- Settles O28: the position taken, then the end of a row and of a picture; the rung and the debt by where they stand
to their window. -/
theorem positionIsCodedAndRowEndMovesTheRung : Obligations.PositionIsCodedAndRowEndMovesTheRung := by
  refine ⟨?_, fun p w => rfl, ?_, ?_⟩
  · intro s t p x fifo k bytes w v r ps hturn hover hload hcoding hp htakes hx hk hbytes hw hv hr hps
    have hposition : s.TakesPosition t x fifo := htakes
    have hnext := hposition.nextPiece hturn hload
    have hcode := exec_codeTile_eq hturn hover hload hcoding hp hnext
    rw [State.codePiece_eq hload hx] at hcode
    have hfifo := hposition.entriesAfter
    subst hfifo hk hbytes hw
    replace hv : v = s.positionCoded t p x := hv
    replace hr : r = v.writeRow t.stream p.rows (s.turnAfter t p x).rowBytes := hr
    replace hps : ps = s.ps.freed t.slot := hps
    have hloaded : v.tc.loaded = some (s.turnAfter t p x).stream := by rw [hv]; exact hload
    have hturned : v.tc.turn = some (s.turnAfter t p x) := by rw [hv]; rfl
    have hws : v.tc.ws = s.tc.ws.afterTile p (s.kindAt t p x) (s.tileAt t p x).length := by rw [hv]; rfl
    rw [← hv] at hcode
    refine ⟨s.tileAt_length hx t p, tileKind_eq_concealed_iff, ?_, tileKind_compressed, tileKind_raw,
      fun hwithin => ?_, fun hend hmore => ?_, fun n e c z hend hlast hpicture he hc hz => ?_⟩
    · exact tileKind_eq_flat_iff.trans (by rw [ceilingTest_eq_false_iff])
    · rw [hcode, if_neg hwithin]
    · rw [hcode, if_pos hend, State.endRow_continues hloaded hturned (by rw [hws]; exact hmore), hr, hps, hws, hv]
      rfl
    · have hended : z = (v.rowEnded (s.turnAfter t p x) p).pictureEnded t.stream n p := by
        rw [hz, hc, he, hr, hv]
        exact (State.pictureEnded_rowEnded (s.positionCoded t p x) (s.turnAfter t p x) n p rfl).symm
      rw [hcode, if_pos hend,
        State.endRow_completes hloaded hturned (by rw [hws]; exact hlast) (by rw [hws]; exact hpicture), hended, hps,
        he, hws, hv]
      rfl
  · rintro p row coded q debt m rfl
    obtain ⟨hlow, hhigh, hinside⟩ := p.clamp_cases (p.askedRung row coded debt q)
    refine ⟨ProfileRec.selectRung_of_dead, fun hmoved => ?_, fun hlo hhi => ProfileRec.selectRung_mem hlo hhi ..⟩
    rw [ProfileRec.selectRung_of_moved hmoved]
    exact ⟨hlow, hhigh, hinside⟩
  · rintro p w c d rfl
    obtain ⟨hlow, hhigh, hinside⟩ := p.debt_cases (p.rawDebt w.debt w.coded)
    exact ⟨hlow, hhigh, hinside, if_congr ProfileRec.debtClamps_iff rfl rfl⟩

end Sys2Proof.Machine
end

section
/-! The arbiter's choice (R57 to R62) and the hand-over (R61). -/

namespace Sys2Proof.Machine

/-! ## The tests of R59 -/

/-- Test 3 of R59. -/
theorem State.proxyDue_iff (s : State) :
    s.proxyDue = true ↔ (s.ps.slot1.isSome = true ∧ s.ps.slot2.isSome = true) ∨
      ∃ n, s.shareLimit = some n ∧ n ≤ s.tc.share := by
  cases h : s.shareLimit <;> simp [State.proxyDue, Ps.full, h]

theorem State.proxyDue_eq_false {s : State} (hslots : s.ps.slot1 = none ∨ s.ps.slot2 = none)
    (hshare : ∀ n, s.shareLimit = some n → s.tc.share < n) : s.proxyDue = false := by
  refine Bool.eq_false_iff.2 fun hdue => ?_
  obtain ⟨h1, h2⟩ | ⟨n, hn, hle⟩ := s.proxyDue_iff.1 hdue
  · rcases hslots with h | h
    · simp [h] at h1
    · simp [h] at h2
  · exact absurd (hshare n hn) (not_lt.2 hle)

theorem State.arbitrate_none {s : State} (hF : s.readyF = false) (hP : s.readyP = false) : s.arbitrate = none := by
  simp [State.arbitrate, hF, hP]

/-- Stream F wins when it alone is ready, when the Tile FIFO is at 192 entries, and when no proxy row is due. -/
theorem State.arbitrate_f {s : State} (hF : s.readyF = true)
    (h : s.readyP = false ∨ 192 ≤ s.ti.fifo.length ∨ s.proxyDue = false) : s.arbitrate = some .f := by
  cases hP : s.readyP with
  | false => simp [State.arbitrate, hF, hP]
  | true =>
    rcases h with h | hlong | hdue
    · simp [hP] at h
    · simp [State.arbitrate, hF, hP, hlong]
    · simp [State.arbitrate, hF, hP, hdue]

/-- Stream P wins when it alone is ready, and when a proxy row is due with the Tile FIFO below 192 entries. -/
theorem State.arbitrate_p {s : State} (hP : s.readyP = true)
    (h : s.readyF = false ∨ (s.ti.fifo.length < 192 ∧ s.proxyDue = true)) : s.arbitrate = some .p := by
  cases hF : s.readyF with
  | false => simp [State.arbitrate, hF, hP]
  | true =>
    rcases h with h | ⟨hshort, hdue⟩
    · simp [hF] at h
    · simp [State.arbitrate, hF, hP, hdue, not_le.2 hshort]

/-! ## The choice (R59 to R62) -/

theorem exec_arbiterChoice_idle {s : State} (h : s.tc.turn.isSome = true ∨ s.arbitrate = none) :
    exec .arbiterChoice s = .next s := by
  show Host.Outcome.next s.arbiterChoice = _
  rcases h with h | h
  · obtain ⟨t, ht⟩ := Option.isSome_iff_exists.1 h
    simp [State.arbiterChoice, ht]
  · cases ht : s.tc.turn <;> simp [State.arbiterChoice, ht, h]

theorem exec_arbiterChoice_given {s : State} {st : Stream} (hturn : s.tc.turn = none) (h : s.arbitrate = some st) :
    exec .arbiterChoice s = .next (s.giveTurn st) := by
  show Host.Outcome.next s.arbiterChoice = _
  simp [State.arbiterChoice, hturn, h]

/-- The turn of a stream that is not loaded waits for its hand-over. -/
theorem State.giveTurn_of_other {s : State} {st : Stream} (h : s.tc.loaded ≠ some st) :
    s.giveTurn st = { s with tc := s.tc.choose { s.newTurn st with handingOver := true } } := by
  have hover : s.newTurn st = { s.newTurn st with handingOver := true } := by simp [State.newTurn, h]
  rw [State.giveTurn, hover]
  rfl

/-- The turn of the loaded stream goes straight on. -/
theorem State.giveTurn_of_loaded {s : State} {st : Stream} (h : s.tc.loaded = some st) :
    s.giveTurn st = ({ s with tc := s.tc.choose (s.newTurn st) } : State).startTurn (s.newTurn st) := by
  have hover : (s.newTurn st).handingOver = false := by simp [State.newTurn, h]
  simp [State.giveTurn, hover]

/-- The turn of a CODING SC-F that read no request begins with its next position. -/
theorem State.startTurn_coding {s : State} {t : Turn} (hst : t.stream = .f) (hrestart : t.restart = false)
    (habandon : t.abandon = none) (hcoding : (s.ws .f).state = .coding) : s.startTurn t = s := by
  simp [State.startTurn, State.continueF, hst, hrestart, habandon, hcoding]

/-- Settles O26: the stream by the tests of R59, then its turn by whether its context is loaded. -/
theorem arbiterChoosesByTheTable : Obligations.ArbiterChoosesByTheTable := by
  intro s
  refine ⟨fun hidle => ?_, fun hturn hF htests hother => ?_, fun hturn hP htests hother => ?_,
    fun hturn hF hP hload hcoding hrestart habandon => ?_⟩
  · exact exec_arbiterChoice_idle (hidle.imp id fun ⟨hF, hP⟩ => State.arbitrate_none hF hP)
  · have hwins : s.arbitrate = some .f := State.arbitrate_f hF
      (htests.imp id (Or.imp id fun ⟨hslots, hshare⟩ => State.proxyDue_eq_false hslots hshare))
    rw [exec_arbiterChoice_given hturn hwins, State.giveTurn_of_other hother]
    rfl
  · have hwins : s.arbitrate = some .p := State.arbitrate_p hP (htests.imp id (And.imp id s.proxyDue_iff.2))
    rw [exec_arbiterChoice_given hturn hwins, State.giveTurn_of_other hother]
    rfl
  · have hnew : s.newTurn .f = { stream := .f, activate := s.scF.activate } := by
      simp [State.newTurn, hload, hrestart, habandon]
    have hws : (({ s with tc := s.tc.choose (s.newTurn .f) } : State).ws .f).state = .coding := by
      rw [State.ws_of_loaded (s := { s with tc := s.tc.choose (s.newTurn .f) }) hload]
      exact hcoding
    rw [exec_arbiterChoice_given hturn (State.arbitrate_f hF (.inl hP)), State.giveTurn_of_loaded hload,
      State.startTurn_coding rfl hrestart habandon hws, hnew]
    rfl

/-! ## The hand-over (R61) -/

theorem State.saveWorkingSet_of_none {s : State} (h : s.tc.loaded = none) : s.saveWorkingSet = s := by
  simp [State.saveWorkingSet, h]

theorem State.saveWorkingSet_of_loaded {s : State} {st : Stream} (h : s.tc.loaded = some st) :
    s.saveWorkingSet = s.setCtx st { s.ctx st with ws := s.tc.ws } := by
  simp [State.saveWorkingSet, h]

/-- HAND_OVER saves, loads, and lets the turn go on. -/
theorem exec_handOver_eq {s : State} {t : Turn} (hturn : s.tc.turn = some t) (hover : t.handingOver = true) :
    exec .handOver s = .next (State.startTurn { s.saveWorkingSet with tc := { s.tc with
      loaded := some t.stream, ws := (s.saveWorkingSet.ctx t.stream).ws
      turn := some { t with handingOver := false } } }
      { t with handingOver := false }) := by
  obtain ⟨-, -, -, -, htc, -⟩ := s.saveWorkingSet_frame
  show Host.Outcome.next s.handOver = _
  simp only [State.handOver, hturn, if_pos hover, State.loadWorkingSet, htc]

/-- Settles O27: by the context that was loaded, if one was. -/
theorem handOverSwapsTheWorkingSets : Obligations.HandOverSwapsTheWorkingSets := by
  intro s t hturn hover
  have hexec := exec_handOver_eq hturn hover
  refine ⟨fun hnone => ?_, fun hload hst => ?_, fun hload hst => ?_⟩
  · rw [hexec, State.saveWorkingSet_of_none hnone]
  · rw [hexec, State.saveWorkingSet_of_loaded hload, hst]
    rfl
  · rw [hexec, State.saveWorkingSet_of_loaded hload, hst]
    rfl

end Sys2Proof.Machine
end

section
/-! The ceiling of a unit: the sizes of coded tiles (R70, R71), and the room that the guard keeps (R87 to R90). -/

namespace Sys2Proof.Machine

/-! ## Sizes (R70, R71) -/

theorem leastUpTo_anti (f : Nat → Nat) {fine coarse : Nat} (h : fine ≤ coarse) :
    leastUpTo f coarse ≤ leastUpTo f fine := by
  induction coarse, h using Nat.le_induction with
  | base => exact Nat.le_refl _
  | succ n _ ih => exact (Nat.min_le_right ..).trans ih

theorem compressedPayload_anti (x : List Sample) {fine coarse : Nat} (h : fine ≤ coarse) :
    compressedPayload x coarse ≤ compressedPayload x fine :=
  Nat.mul_le_mul_left 8 (Nat.succ_le_succ (leastUpTo_anti _ h))

theorem compressedPayload_eight (x : List Sample) (step : Nat) :
    8 ≤ compressedPayload x step ∧ compressedPayload x step % 8 = 0 := by
  unfold compressedPayload
  omega

@[simp] theorem tileSize_flat (x : Option (List Sample)) (step : Nat) : tileSize .flat x step = 16 := rfl
@[simp] theorem tileSize_concealed (x : Option (List Sample)) (step : Nat) : tileSize .concealed x step = 16 := rfl
@[simp] theorem tileSize_raw (x : Option (List Sample)) (step : Nat) : tileSize .raw x step = 1288 := by
  simp [tileSize, tilePayload]
@[simp] theorem tileSize_compressed (x : List Sample) (step : Nat) :
    tileSize .compressed (some x) step = 8 + compressedPayload x step := rfl

/-- A position that arrived, with the latch clear and the test passed, is compressed where that is smaller than raw. -/
theorem tileKind_of_passed (x : List Sample) (step : Nat) :
    tileKind (some x) false true step = if compressedPayload x step ≤ 1272 then .compressed else .raw := rfl

/-! ## The guard (R87, R88, R90) -/

/-- A tile of more than 16 bytes is coded only behind a test that passed, and is no longer than the raw one. -/
theorem WorkingSet.kindOf_cases (w : WorkingSet) (p : ProfileRec) (x : Piece) (step : Nat) :
    tileSize (w.kindOf p x step) x.samples step = 16 ∨
    (tileSize (w.kindOf p x step) x.samples step ≤ 1288 ∧
      w.coded + 1288 + 16 * (p.tiles - w.position p - 1) ≤ p.ceiling) := by
  have hpassed : w.kindOf p x step ≠ .flat → x.samples ≠ none →
      w.coded + 1288 + 16 * (p.tiles - w.position p - 1) ≤ p.ceiling := by
    intro hflat hsamples
    by_contra hover
    exact hflat (tileKind_eq_flat_iff.2 ⟨hsamples, .inr (ceilingTest_eq_false_iff.2 (not_le.1 hover))⟩)
  cases hkind : w.kindOf p x step with
  | flat => exact .inl rfl
  | concealed => exact .inl rfl
  | compressed =>
    obtain ⟨y, hy, hfits⟩ := tileKind_compressed hkind
    refine .inr ⟨?_, hpassed (by simp [hkind]) (by simp [hy])⟩
    rw [hy, tileSize_compressed]
    omega
  | raw =>
    obtain ⟨y, hy, -⟩ := tileKind_raw hkind
    exact .inr ⟨Nat.le_refl _, hpassed (by simp [hkind]) (by simp [hy])⟩

/-- The guard's step: 16 bytes for every position still to come stay free. -/
theorem WorkingSet.guard_keeps {w : WorkingSet} {p : ProfileRec} (hposition : w.position p < p.tiles)
    (hroom : w.coded + 16 * (p.tiles - w.position p) ≤ p.ceiling) (x : Piece) (step : Nat) :
    w.coded + tileSize (w.kindOf p x step) x.samples step + 16 * (p.tiles - w.position p - 1) ≤ p.ceiling := by
  obtain hshort | ⟨hraw, htest⟩ := w.kindOf_cases p x step
  · omega
  · omega

/-- Settles O29: the sizes by kind, and the guard by whether its test passed. -/
theorem tileSizesAndGuardKeepToTheCeiling : Obligations.TileSizesAndGuardKeepToTheCeiling := by
  refine ⟨⟨fun x step => ⟨tileSize_flat .., tileSize_concealed .., tileSize_raw ..⟩, ?sizes,
      fun x fine coarse => compressedPayload_anti x⟩,
    fun w p x step hposition hroom => WorkingSet.guard_keeps hposition hroom x step, fun w p step => ⟨rfl, ?concealed⟩⟩
  case sizes =>
    rintro x step size rfl
    obtain ⟨hleast, hsteps⟩ := compressedPayload_eight x step
    rw [tileKind_of_passed]
    split_ifs with hfits
    · rw [tileSize_compressed]
      exact .inr ⟨rfl, by omega, by omega, by omega⟩
    · exact .inl ⟨rfl, rfl⟩
  case concealed => simp [WorkingSet.afterTile]

end Sys2Proof.Machine
end

section
/-! What a context passes by: entries of the Tile FIFO (R74) and proxy rows (R75). -/

namespace Sys2Proof.Machine

/-! ## A finished picture leaves the Tile FIFO as it was (R28) -/

theorem State.finish_fifo (s : State) (st : Stream) (source : Nat) (x : StreamState) :
    (s.finish st source x).ti.fifo = s.ti.fifo := by
  unfold State.finish
  split
  · rfl
  · dsimp only
    split
    · rfl
    · split <;> simp [State.removeFinished, State.editRecord]

theorem State.finishNotCoded_fifo (s : State) (st : Stream) (source : Nat) :
    (s.finishNotCoded st source).ti.fifo = s.ti.fifo := by
  unfold State.finishNotCoded
  split
  · split
    · rfl
    · exact s.finish_fifo ..
  · rfl

/-! ## Entries (R74) -/

/-- The two states in which SC-F passes an entry by: READY and no OPEN, or INACTIVE and no OPEN it would activate at. -/
theorem State.passesEntry_eq_true {s : State} {e : FifoEntry}
    (h : ((s.ws .f).state = .ready ∧ ∀ n, e ≠ .openE n) ∨
      ((s.ws .f).state = .inactive ∧ (s.scF.activate = false ∨ ∀ n, e ≠ .openE n))) : s.passesEntry e = true := by
  obtain ⟨hstate, hopen⟩ | ⟨hstate, hset⟩ := h
  · cases e with
    | openE n => exact absurd rfl (hopen n)
    | tileE | runE | endE => simp [State.passesEntry, hstate]
  · cases e with
    | openE n =>
      have hactivate : s.scF.activate = false := hset.resolve_right fun hopen => hopen n rfl
      simp [State.passesEntry, hstate, hactivate]
    | tileE | runE | endE => simp [State.passesEntry, hstate]

section
variable {s : State} {e : FifoEntry} {rest : List FifoEntry}

/-- An entry inside a picture leaves the Tile FIFO, and that is all. -/
theorem exec_passByEntry_of_not_end (hfifo : s.ti.fifo = e :: rest) (hpasses : s.passesEntry e = true)
    (hend : ∀ n a b c, e ≠ .endE n a b c) :
    exec .passByEntry s = .next { s with ti := { s.ti with fifo := rest } } := by
  show Host.Outcome.next s.passByEntry = _
  cases e with
  | endE n a b c => exact absurd rfl (hend n a b c)
  | openE | tileE | runE => simp [State.passByEntry, hfifo, hpasses, State.editFifo]

/-- An END leaves the Tile FIFO, and its picture is counted and NOT CODED. -/
theorem exec_passByEntry_of_end {n : Nat} {a b c : Bool} (hfifo : s.ti.fifo = .endE n a b c :: rest)
    (hpasses : s.passesEntry (.endE n a b c) = true) :
    exec .passByEntry s = .next (({ s with
      ti := { s.ti with fifo := rest }, scF := s.scF.countPassed } : State).finishNotCoded .f n) := by
  show Host.Outcome.next s.passByEntry = _
  simp [State.passByEntry, hfifo, hpasses, State.editFifo]

end

/-! ## Proxy rows (R75) -/

/-- SC-P passes a row by when it is READY and the row is not row 0, and when it is INACTIVE without ACTIVATE. -/
theorem State.passesRow_eq_true {s : State} {r : ProxyRow}
    (h : ((s.ws .p).state = .ready ∧ r.row ≠ 0) ∨ ((s.ws .p).state = .inactive ∧ s.scP.activate = false)) :
    s.passesRow r = true := by
  obtain ⟨hstate, hrow⟩ | ⟨hstate, hactivate⟩ := h
  · simp [State.passesRow, hstate, hrow]
  · simp [State.passesRow, hstate, hactivate]

/-- With no turn in progress no slot's row is taken (R50). -/
theorem State.slotTaken_of_no_turn {s : State} (h : s.tc.turn = none) (i : SlotId) : s.slotTaken i = false := by
  simp [State.slotTaken, h]

theorem exec_passByRow_eq {s : State} {i : SlotId} {r : ProxyRow} (hheld : s.ps.older = some (i, r))
    (hturn : s.tc.turn = none) (hpasses : s.passesRow r = true) :
    exec .passByRow s = .next (({ s with ps := s.ps.setSlot i none } : State).passRow r) := by
  show Host.Outcome.next s.passByRow = _
  simp [State.passByRow, hheld, hpasses, State.slotTaken_of_no_turn hturn]

theorem State.passRow_of_within {r : ProxyRow} (h : r.last = false) (s : State) : s.passRow r = s := by
  simp [State.passRow, h]

/-- The last row of a picture is a gap of SC-P's and a passed picture. -/
theorem State.passRow_of_last {r : ProxyRow} (h : r.last = true) (s : State) :
    (s.passRow r).scP = { s.scP with
      gap := add16 s.scP.gap 1, counters := { s.scP.counters with passed := bump s.scP.counters.passed } } ∧
    (s.passRow r).ti.fifo = s.ti.fifo := by
  simp only [State.passRow, if_pos h]
  refine ⟨?_, (State.finishNotCoded_fifo ..).trans rfl⟩
  simp [State.addProxyGap, Ctx.countPassed]

/-- Settles O32: an entry by whether it is an END, a row by whether it is its picture's last. -/
theorem passedByEntriesAndRowsLeave : Obligations.PassedByEntriesAndRowsLeave := by
  refine ⟨fun s e rest hfifo hstate => ?_, fun s i r hheld hturn hstate => ?_⟩
  · have hpasses := State.passesEntry_eq_true hstate
    refine ⟨exec_passByEntry_of_not_end hfifo hpasses, ?_⟩
    rintro n a b c rfl
    refine ⟨_, exec_passByEntry_of_end hfifo hpasses, State.finishNotCoded_fifo .., ?_⟩
    simp [Ctx.countPassed]
  · have hexec := exec_passByRow_eq hheld hturn (State.passesRow_eq_true hstate)
    refine ⟨fun hwithin => ?_, fun hlast => ⟨_, hexec, ?_⟩⟩
    · rw [hexec, State.passRow_of_within hwithin]
    · obtain ⟨hscP, hentries⟩ := State.passRow_of_last hlast { s with ps := s.ps.setSlot i none }
      simp [hscP, hentries]

end Sys2Proof.Machine
end

section
/-! RESTART of stream F: posted, or applied at once to an INACTIVE context (R62, R65, R183). -/

namespace Sys2Proof.Machine

theorem exec_restart_refused {s : State} {d : Directive} {rest : List Directive} (h : s.accepts .restart d rest)
    (hst : 2 ≤ fieldAt d.args 0 1) :
    exec .restart s = .next ((s.countTaken .restart).answer d .refusedRange .none) := by
  obtain ⟨hfifo, hcode, hcheck⟩ := h
  show Host.Outcome.next s.restartDirective = _
  simp [State.restartDirective, hfifo, hcode, hcheck, (streamOf_eq_none_iff _).2 hst]

theorem exec_restart_f {s : State} {d : Directive} {rest : List Directive} (h : s.accepts .restart d rest)
    (hst : fieldAt d.args 0 1 = 0) :
    exec .restart s = .next ((s.countTaken .restart).postRestart .f d).popDirective := by
  obtain ⟨hfifo, hcode, hcheck⟩ := h
  show Host.Outcome.next s.restartDirective = _
  simp [State.restartDirective, hfifo, hcode, hcheck, hst, streamOf]

/-! ## The request and its reply (R62, R183) -/

/-- The request of a RESTART in SC-F's set, with the reply that waits for it kept or counted as lost. -/
def State.requestRestartF (s : State) (d : Directive) : State :=
  { s with
    du := { s.du with
      waitF := if s.du.waitF.length < 8 then s.du.waitF ++ [⟨d.tag, d.cls⟩] else s.du.waitF
      counters := { s.du.counters with
        waitOverflows := if s.du.waitF.length < 8 then s.du.counters.waitOverflows
          else bump s.du.counters.waitOverflows } }
    scF := { s.scF with restart := true } }

/-- The posting to SC-F writes its request; an INACTIVE context applies it at once (R65). -/
theorem State.postRestart_f (s : State) (d : Directive) :
    s.postRestart .f d = if (s.ws .f).state = .inactive then (s.requestRestartF d).applyRestartInactive .f
      else s.requestRestartF d := by
  have hrequest : (s.keepReply .f d).setCtx .f { (s.keepReply .f d).ctx .f with restart := true } =
      s.requestRestartF d := by
    by_cases hroom : s.du.waitF.length < 8 <;>
      simp [State.keepReply, State.requestRestartF, State.waitList, State.setWaitList, hroom]
  have hws : (s.requestRestartF d).ws .f = s.ws .f := State.ws_congr rfl rfl
  simp only [State.postRestart, hrequest, hws]

/-! ## An INACTIVE context (R65) -/

/-- A written working set leaves the rest of the context's record. -/
theorem State.setWs_f_scF (s : State) (w : WorkingSet) : ∃ x, (s.setWs .f w).scF = { s.scF with ws := x } := by
  unfold State.setWs
  split
  · exact ⟨_, rfl⟩
  · exact ⟨_, rfl⟩

@[simp] theorem State.setWs_f_scP (s : State) (w : WorkingSet) : (s.setWs .f w).scP = s.scP := by
  unfold State.setWs
  split <;> rfl

theorem State.answerRestarts_f_one {s : State} {w : ReplyTo} (hwait : s.du.waitF = [w]) (hcls : w.cls = .console)
    (cancelled : Option Nat) : s.answerRestarts .f cancelled = { s with
      du := { s.du with waitF := [] }
      lsA := s.lsA.enqueue 32 (.reply .console (DirKind.code .restart) w.tag .done (.restarted .f cancelled)) } := by
  simp [State.answerRestarts, State.waitList, State.setWaitList, hwait, State.replyEach, State.reply, hcls,
    SourceClass.lane, State.report, reportCapacity]

/-- q0 of the active profile, 0 when none is held. -/
theorem StreamTables.startRung_eq (t : StreamTables) : t.startRung = (t.profile.map ProfileRec.qstart).getD 0 := by
  cases h : t.profile <;> simp [StreamTables.startRung, h]

/-- SC-F's record when a RESTART is applied to the INACTIVE context, before its working set is written. -/
def State.clearedF (s : State) : Ctx :=
  (s.scF.clearForRestart s.scF.abandon s.prs.f.hasPending).countRestart

/-- What an INACTIVE SC-F leaves when it applies a RESTART for which one reply, with this tag, waits. -/
def State.restartedF (s : State) (tag : Byte) : State :=
  { ({ s with scF := s.clearedF } : State).setWs .f { s.ws .f with q := s.prs.f.startRung, debt := 0 } with
    du := { s.du with waitF := [] }
    lsA := s.lsA.enqueue 32 (.reply .console (DirKind.code .restart) tag .done (.restarted .f none)) }

theorem State.applyRestartInactive_f {s : State} {w : ReplyTo} (hwait : s.du.waitF = [w]) (hcls : w.cls = .console) :
    s.applyRestartInactive .f = s.restartedF w.tag := by
  have hws : ({ s with scF := s.clearedF } : State).ws .f = s.ws .f := State.ws_congr rfl rfl
  have happlied : s.applyRestartInactive .f = (({ s with scF := s.clearedF } : State).setWs .f
      { ({ s with scF := s.clearedF } : State).ws .f with q := s.prs.f.startRung, debt := 0 }).answerRestarts .f none :=
    rfl
  rw [happlied, hws, State.answerRestarts_f_one (by simpa using hwait) hcls]
  simp [State.restartedF]

theorem State.restartedF_context (s : State) (tag : Byte) :
    (s.restartedF tag).ws .f = { s.ws .f with q := s.prs.f.startRung, debt := 0 } ∧
    ∃ x, (s.restartedF tag).scF = { s.clearedF with ws := x } :=
  ⟨(State.ws_congr rfl rfl).trans (State.ws_setWs ..), State.setWs_f_scF ..⟩

theorem State.restartedF_frame (s : State) (tag : Byte) :
    (s.restartedF tag).ti = s.ti ∧ (s.restartedF tag).prs = s.prs ∧ (s.restartedF tag).ps = s.ps ∧
    (s.restartedF tag).scP = s.scP ∧ (s.restartedF tag).fsc = s.fsc ∧ (s.restartedF tag).tcu = s.tcu ∧
    (s.restartedF tag).tkc = s.tkc ∧ (s.restartedF tag).dram = s.dram ∧ (s.restartedF tag).lsB = s.lsB := by
  simp [State.restartedF]

theorem State.postRestart_f_applied {s : State} {d : Directive} (hstate : (s.ws .f).state = .inactive)
    (hwait : s.du.waitF = []) (hcls : d.cls = .console) :
    s.postRestart .f d = (s.requestRestartF d).restartedF d.tag := by
  have hone : (s.requestRestartF d).du.waitF = [⟨d.tag, d.cls⟩] := by simp [State.requestRestartF, hwait]
  rw [State.postRestart_f, if_pos hstate, State.applyRestartInactive_f hone hcls]

/-- Settles O58: a stream byte of neither stream, the request posted, the request applied. -/
theorem restartIsPostedOrAppliedAtOnce : Obligations.RestartIsPostedOrAppliedAtOnce := by
  intro s d rest haccepts
  have hcls : d.cls = .console := State.accepts_cls haccepts rfl
  obtain ⟨hfifo, hcode, -⟩ := id haccepts
  refine ⟨exec_restart_refused haccepts, fun hst hstate => ?posted, fun hst hstate hwait => ?applied⟩
  case posted =>
    have hposted : (s.countTaken .restart).postRestart .f d = (s.countTaken .restart).requestRestartF d :=
      (State.postRestart_f ..).trans (if_neg hstate)
    rw [exec_restart_f haccepts hst, hposted]
    simp [State.requestRestartF, State.popDirective, State.countTaken, hfifo]
  case applied =>
    have happlied := State.postRestart_f_applied (s := s.countTaken .restart) hstate hwait hcls
    obtain ⟨hws, x, hscF⟩ := ((s.countTaken .restart).requestRestartF d).restartedF_context d.tag
    obtain ⟨hti, hprs, hps, hscP, hfsc, htcu, htkc, hdram, hlsB⟩ :=
      ((s.countTaken .restart).requestRestartF d).restartedF_frame d.tag
    have hdirectives : (((s.countTaken .restart).requestRestartF d).restartedF d.tag).du.fifo = d :: rest := hfifo
    have hwaiting : (((s.countTaken .restart).requestRestartF d).restartedF d.tag).du.waitF = [] := rfl
    have hlsA : (((s.countTaken .restart).requestRestartF d).restartedF d.tag).lsA =
        s.lsA.enqueue 32 (.reply .console d.code d.tag .done (.restarted .f none)) := by rw [hcode]; rfl
    refine ⟨_, exec_restart_f haccepts hst, ?_⟩
    rw [happlied]
    generalize ((s.countTaken .restart).requestRestartF d).restartedF d.tag = t at *
    have hpopped : t.popDirective.ws .f = { s.ws .f with q := s.prs.f.startRung, debt := 0 } := hws
    rw [hpopped, ← StreamTables.startRung_eq]
    refine ⟨congrArg List.tail hdirectives, hwaiting, hstate, rfl, rfl, ?_, ?_, ?_, ?_, ?_, hscP, hps, hti, hprs, htkc,
      hfsc, htcu, hdram, hlsB, hlsA⟩
    all_goals simp [hscF, State.clearedF, Ctx.countRestart, Ctx.clearForRestart, StreamTables.hasPending,
      State.requestRestartF]

end Sys2Proof.Machine
end

section
/-! What the lanes' and the TKC's work leaves of a ring: the choice of a packet writes fault-reported flags of entries
(R114), the closing of a take writes the directory (R107, R150, R168), and neither writes the rest of the ring. -/

namespace Sys2Proof.Machine

/-- An entry but for its fault-reported flags. -/
def DirEntry.unfaulted (e : DirEntry) : DirEntry := { e with faultA := false, faultB := false }

/-- A ring but for the fault-reported flags of its entries. -/
def RingState.unfaulted (r : RingState) : RingState := { r with dir := r.dir.map DirEntry.unfaulted }

/-- A ring beside its directory. -/
def RingState.noDir (r : RingState) : RingState := { r with dir := [] }

theorem RingState.noDir_of_unfaulted {r q : RingState} (h : r.unfaulted = q.unfaulted) : r.noDir = q.noDir := by
  have hsame : r.unfaulted.noDir = q.unfaulted.noDir := congrArg RingState.noDir h
  exact hsame

theorem State.ringState_congr {s t : State} (h : t.fsc = s.fsc) (st : Stream) : t.ringState st = s.ringState st := by
  cases st with
  | f => exact congrArg Fsc.f h
  | p => exact congrArg Fsc.p h

theorem State.ringState_setRingState_ne (s : State) {st st' : Stream} (h : st' ≠ st) (r : RingState) :
    (s.setRingState st r).ringState st' = s.ringState st' := by
  cases st with
  | f => cases st' with
    | f => exact absurd rfl h
    | p => rfl
  | p => cases st' with
    | f => rfl
    | p => exact absurd rfl h

/-! ## The choice of a packet (R112 to R114, R162) -/

theorem modifyEntry_unfaulted {f : DirEntry → DirEntry} (hf : ∀ e, (f e).unfaulted = e.unfaulted) (source : Nat)
    (dir : List DirEntry) : (modifyEntry source f dir).map DirEntry.unfaulted = dir.map DirEntry.unfaulted := by
  simp only [modifyEntry, List.map_map]
  refine List.map_congr_left fun e _ => ?_
  simp only [Function.comp]
  split
  · exact hf e
  · rfl

theorem State.editEntry_unfaulted {f : DirEntry → DirEntry} (hf : ∀ e, (f e).unfaulted = e.unfaulted) (s : State)
    (st : Stream) (source : Nat) (st' : Stream) :
    ((s.editEntry st source f).ringState st').unfaulted = (s.ringState st').unfaulted := by
  by_cases h : st' = st
  · subst h
    simp [State.editEntry, RingState.unfaulted, modifyEntry_unfaulted hf]
  · rw [State.editEntry, State.ringState_setRingState_ne s h]

theorem DirEntry.markFault_unfaulted (e : DirEntry) (l : LaneId) : (e.markFault l).unfaulted = e.unfaulted := by
  cases l <;> rfl

theorem State.raiseFault_unfaulted (s : State) (l : LaneId) (st : Stream) (k : FaultRecord) (st' : Stream) :
    ((s.raiseFault l st k).ringState st').unfaulted = (s.ringState st').unfaulted := by
  rw [← s.editEntry_unfaulted (fun e => e.markFault_unfaulted l) st k.source st']
  cases st' <;> rfl

theorem State.startSegment_unfaulted (s : State) (l : LaneId) (st : Stream) (source : Nat) (st' : Stream) :
    ((s.startSegment l st source).ringState st').unfaulted = (s.ringState st').unfaulted := by
  have hread : ∀ r e i x, ((s.setLane l x).countRead r e i).ringState st' = s.ringState st' := fun r e i x => by
    rw [← s.ringState_setLane l x st']
    cases st' <;> rfl
  unfold State.startSegment
  split
  · dsimp only
    split
    · split
      · rw [hread]
      · rw [State.raiseFault_unfaulted, hread]
    · rw [hread]
  · rfl

theorem State.choose_unfaulted (s : State) (l : LaneId) (st : Stream) :
    ((s.choose l).ringState st).unfaulted = (s.ringState st).unfaulted := by
  unfold State.choose
  split
  · rfl
  · split
    · rw [State.ringState_setLane]
    · split
      · rfl
      · rw [State.ringState_setLane]
      · split
        · rfl
        · exact s.startSegment_unfaulted ..

theorem State.chooseIfHeadChanged_unfaulted (s : State) (l : LaneId) (before : Option Item) (st : Stream) :
    ((s.chooseIfHeadChanged l before).ringState st).unfaulted = (s.ringState st).unfaulted := by
  unfold State.chooseIfHeadChanged
  split
  · rfl
  · exact s.choose_unfaulted ..

/-! ## A lane's list (R160 to R170) -/

theorem State.notify_items (s : State) (n : Notice) (l : LaneId) : ((s.notify n).lane l).items = (s.lane l).items := by
  cases l with
  | a =>
    obtain ⟨hitems, -⟩ := s.lsA.enqueue_frame 32 (.notice n)
    exact hitems
  | b => rfl

theorem State.setLane_items {s : State} {l : LaneId} {x : LaneSender} (h : x.items = (s.lane l).items) (l' : LaneId) :
    ((s.setLane l x).lane l').items = (s.lane l').items := by
  cases l with
  | a => cases l' with
    | a => exact h
    | b => rfl
  | b => cases l' with
    | a => rfl
    | b => exact h

theorem State.startSegment_items (s : State) (l : LaneId) (st : Stream) (source : Nat) (l' : LaneId) :
    ((s.startSegment l st source).lane l').items = (s.lane l').items := by
  have hread : ∀ r e i g, (((s.setLane l ((s.lane l).sendSegment l g)).countRead r e i).lane l').items =
      (s.lane l').items := fun r e i g => by
    rw [← State.setLane_items (s := s) (l := l) (x := (s.lane l).sendSegment l g) rfl l']
    cases l' <;> rfl
  have hfault : ∀ (t : State) k, ((t.raiseFault l st k).lane l').items = (t.lane l').items := fun t k => by
    rw [State.raiseFault, State.notify_items]
    cases l' <;> simp
  unfold State.startSegment
  split
  · dsimp only
    split
    · split
      · exact hread ..
      · rw [hfault, hread]
    · exact hread ..
  · rfl

theorem LaneSender.startReport_items (x : LaneSender) : x.startReport.items = x.items := by
  unfold LaneSender.startReport
  split <;> rfl

/-- The choice of a packet takes nothing from a list. -/
theorem State.choose_items (s : State) (l l' : LaneId) : ((s.choose l).lane l').items = (s.lane l').items := by
  unfold State.choose
  split
  · rfl
  · split
    · exact State.setLane_items (LaneSender.startReport_items _) l'
    · split
      · rfl
      · refine State.setLane_items ?_ l'
        rfl
      · split
        · rfl
        · exact s.startSegment_items ..

theorem State.chooseIfHeadChanged_items (s : State) (l : LaneId) (before : Option Item) (l' : LaneId) :
    ((s.chooseIfHeadChanged l before).lane l').items = (s.lane l').items := by
  unfold State.chooseIfHeadChanged
  split
  · rfl
  · exact s.choose_items ..

/-! ## The closing of takes (R147 to R151) -/

theorem State.editEntry_noDir (s : State) (st : Stream) (source : Nat) (f : DirEntry → DirEntry) (st' : Stream) :
    ((s.editEntry st source f).ringState st').noDir = (s.ringState st').noDir := by
  cases st <;> cases st' <;> rfl

theorem State.choose_noDir (s : State) (l : LaneId) (st : Stream) :
    ((s.choose l).ringState st).noDir = (s.ringState st).noDir :=
  RingState.noDir_of_unfaulted (s.choose_unfaulted l st)

theorem State.clearNeeds_noDir (s : State) (l : LaneId) (items : List Item) (st : Stream) :
    ((s.clearNeeds l items).ringState st).noDir = (s.ringState st).noDir := by
  induction items generalizing s with
  | nil => rfl
  | cons i rest ih =>
    cases i with
    | unit st' source => exact (ih _).trans (s.editEntry_noDir ..)
    | marker m => exact ih s

theorem State.backlogTest_noDir (s : State) (st : Stream) :
    (s.backlogTest.ringState st).noDir = (s.ringState st).noDir := by
  unfold State.backlogTest
  dsimp only
  split
  · rfl
  · refine (RingState.noDir_of_unfaulted (State.chooseIfHeadChanged_unfaulted ..)).trans ?_
    rw [← s.clearNeeds_noDir .b _ st]
    exact congrArg _ (State.ringState_congr rfl st)

theorem State.pushItem_noDir (s : State) (l : LaneId) (i : Item) (st : Stream) :
    ((s.pushItem l i).ringState st).noDir = (s.ringState st).noDir := by
  unfold State.pushItem
  dsimp only
  split
  · rw [State.choose_noDir, State.ringState_setLane]
  · rw [State.ringState_setLane]

theorem State.push_noDir (s : State) (l : LaneId) (i : Item) (st : Stream) :
    ((s.push l i).ringState st).noDir = (s.ringState st).noDir := by
  cases i with
  | unit st' source =>
    cases l with
    | a => exact s.pushItem_noDir ..
    | b =>
      unfold State.push State.pushUnit
      dsimp only
      split
      · rw [State.backlogTest_noDir, State.pushItem_noDir, State.ringState_setLane]
      · exact s.clearNeeds_noDir ..
  | marker m =>
    unfold State.push State.pushMarker
    dsimp only
    split
    · split
      · rw [State.pushItem_noDir, State.ringState_setLane]
      · rw [State.ringState_setLane]
    · split
      · rw [State.ringState_setLane]
      · rw [State.pushItem_noDir, State.ringState_setLane]

theorem State.pushAll_noDir (s : State) (l : LaneId) (items : List Item) (st : Stream) :
    ((s.pushAll l items).ringState st).noDir = (s.ringState st).noDir := by
  induction items generalizing s with
  | nil => rfl
  | cons i rest ih => exact (ih _).trans (s.push_noDir ..)

theorem State.closeOnLane_noDir (s : State) (t : TakeRec) (l : LaneId) (st : Stream) :
    ((s.closeOnLane t l).ringState st).noDir = (s.ringState st).noDir := by
  have hhold : ∀ u : State, (u.setHold l []).fsc = u.fsc := fun u => by simp
  unfold State.closeOnLane
  split
  · rw [State.releaseHold, State.pushAll_noDir, State.ringState_congr (hhold _) st]
    exact s.push_noDir l (.marker (.takeClose t)) st
  · rfl

theorem State.closeTake_noDir (s : State) (t : TakeRec) (st : Stream) :
    ((s.closeTake t).ringState st).noDir = (s.ringState st).noDir := by
  have hpromote : ∀ u : State, u.promote.fsc = u.fsc := fun u => by simp
  unfold State.closeTake
  dsimp only
  rw [State.ringState_congr (hpromote _) st, State.closeOnLane_noDir,
    State.closeOnLane_noDir]
  exact congrArg _ (State.ringState_congr rfl st)

theorem State.closeIfDone_noDir (s : State) (st : Stream) :
    (s.closeIfDone.ringState st).noDir = (s.ringState st).noDir := by
  unfold State.closeIfDone
  split
  · rfl
  · split
    · rfl
    · exact s.closeTake_noDir ..

theorem State.testClosing_noDir (s : State) (st : Stream) :
    (s.testClosing.ringState st).noDir = (s.ringState st).noDir :=
  (s.closeIfDone.closeIfDone_noDir st).trans (s.closeIfDone_noDir st)

/-- A stream finishing with a picture may close a take, which writes directories and nothing else of the rings. -/
theorem State.finish_noDir (s : State) (st : Stream) (source : Nat) (x : StreamState) (st' : Stream) :
    ((s.finish st source x).ringState st').noDir = (s.ringState st').noDir := by
  unfold State.finish
  split
  · rfl
  · dsimp only
    split
    · exact congrArg _ (State.ringState_congr rfl st')
    · rw [State.testClosing_noDir]
      split <;> exact congrArg _ (State.ringState_congr rfl st')

end Sys2Proof.Machine
end

section
/-! A reservation (R97 to R101): the room it asks for, the walk that makes it, and the spill. -/

namespace Sys2Proof.Machine

/-! ## Room (R97, R99) -/

theorem State.ringGranules_eq (s : State) (st : Stream) :
    s.ringGranules st = ((s.tables st).ring.map Ring.granules).getD 0 := by
  unfold State.ringGranules
  cases (s.tables st).ring <;> rfl

theorem State.ringGranules_congr {s t : State} (h : t.prs = s.prs) (st : Stream) :
    t.ringGranules st = s.ringGranules st := by
  cases st <;> simp [State.ringGranules, h]

theorem State.fits_iff (s : State) (st : Stream) (size : Nat) :
    s.fits st size = true ↔
      size ≤ s.ringGranules st - (s.ringState st).allocated ∧ (s.ringState st).dir.length < 2048 := by
  rw [State.fits, Bool.and_eq_true, decide_eq_true_iff, decide_eq_true_iff]
  rfl

/-- The entries of a ring, but for their fault-reported flags. -/
def State.entries (s : State) (st : Stream) : List DirEntry := (s.ringState st).unfaulted.dir

theorem State.length_entries (s : State) (st : Stream) : (s.entries st).length = (s.ringState st).dir.length :=
  List.length_map ..

/-- The granules of a list of entries. -/
def granulesOf (entries : List DirEntry) : Nat := (entries.map DirEntry.extent).sum

/-- A request would fit once the `n` oldest entries had left. -/
def State.fitsAfter (s : State) (st : Stream) (size n : Nat) : Prop :=
  size ≤ s.ringGranules st - ((s.ringState st).allocated - granulesOf ((s.entries st).take n)) ∧
  (s.entries st).length - n < 2048

theorem State.fitsAfter_zero (s : State) (st : Stream) (size : Nat) :
    s.fitsAfter st size 0 ↔ s.fits st size = true := by
  rw [State.fits_iff, State.fitsAfter, State.length_entries]
  rfl

/-! ## A unit that leaves to make room (R98, R111) -/

/-- Lane B holds no trace of a unit: not in its list, not in its hold, and not waiting for its master. -/
def State.NoTraceOnB (s : State) (st : Stream) (source : Nat) : Prop :=
  .unit st source ∉ s.lsB.items ∧ .unit st source ∉ s.tkc.holdB ∧ (st = .p → ∀ w ∈ s.tkc.waiting, w.source ≠ source)

/-- From `s` to `t` nothing joins Lane B's list, its hold, or the units waiting for a master. -/
structure State.OnlyLeaveB (s t : State) : Prop where
  items : t.lsB.items ⊆ s.lsB.items
  hold : t.tkc.holdB ⊆ s.tkc.holdB
  waiting : t.tkc.waiting ⊆ s.tkc.waiting

theorem State.OnlyLeaveB.refl (s : State) : s.OnlyLeaveB s :=
  ⟨List.Subset.refl _, List.Subset.refl _, List.Subset.refl _⟩

theorem State.OnlyLeaveB.trans {s t u : State} (h : s.OnlyLeaveB t) (g : t.OnlyLeaveB u) : s.OnlyLeaveB u :=
  ⟨List.Subset.trans g.items h.items, List.Subset.trans g.hold h.hold, List.Subset.trans g.waiting h.waiting⟩

theorem State.NoTraceOnB.mono {s t : State} {st : Stream} {source : Nat} (h : s.NoTraceOnB st source)
    (g : s.OnlyLeaveB t) : t.NoTraceOnB st source := by
  obtain ⟨hitems, hhold, hwaiting⟩ := h
  exact ⟨fun hi => hitems (g.items hi), fun hi => hhold (g.hold hi), fun hst w hw => hwaiting hst w (g.waiting hw)⟩

theorem State.ringDropB_items (s : State) (st : Stream) (source : Nat) :
    (s.ringDropB st source).lsB.items = s.lsB.items.filter fun i => decide (i ≠ .unit st source) :=
  State.chooseIfHeadChanged_items _ .b _ .b

theorem State.ringDropB_unfaulted (s : State) (st : Stream) (source : Nat) (st' : Stream) :
    ((s.ringDropB st source).ringState st').unfaulted = (s.ringState st').unfaulted :=
  (State.chooseIfHeadChanged_unfaulted ..).trans (congrArg _ (State.ringState_congr rfl st'))

theorem State.dropFromTkc_fsc (s : State) (st : Stream) (source : Nat) : (s.dropFromTkc st source).fsc = s.fsc := by
  simp

theorem State.dropFromTkc_holdB (s : State) (st : Stream) (source : Nat) :
    (s.dropFromTkc st source).tkc.holdB = s.tkc.holdB.filter fun i => decide (i ≠ .unit st source) := by
  simp only [State.dropFromTkc, State.setHold, State.hold]
  cases (if st = .p then s.tkc.waiting.find? fun w => w.source == source else none) <;> rfl

/-- For stream P the waiting units of the picture leave; for stream F none does (R111). -/
theorem State.dropFromTkc_waiting (s : State) (st : Stream) (source : Nat) :
    (s.dropFromTkc st source).tkc.waiting =
      if st = .p then s.tkc.waiting.filter fun w => w.source != source else s.tkc.waiting := by
  cases st with
  | f => simp [State.dropFromTkc, State.setHold]
  | p =>
    cases hfind : s.tkc.waiting.find? fun w => w.source == source with
    | some w => simp [State.dropFromTkc, State.setHold, State.addGap, State.editTake, hfind]
    | none =>
      have hall : s.tkc.waiting.filter (fun w => w.source != source) = s.tkc.waiting := by
        refine List.filter_eq_self.2 fun w hw => ?_
        simpa using List.find?_eq_none.1 hfind w hw
      simp [State.dropFromTkc, State.setHold, hfind, hall]

/-- What a drop leaves of Lane B's list, its hold, and the units waiting for a master (R111). -/
theorem State.tellDrop_lists (s : State) (st : Stream) (source : Nat) :
    (s.tellDrop st source).lsB.items = s.lsB.items.filter (fun i => decide (i ≠ .unit st source)) ∧
    (s.tellDrop st source).tkc.holdB = s.tkc.holdB.filter (fun i => decide (i ≠ .unit st source)) ∧
    (s.tellDrop st source).tkc.waiting =
      if st = .p then s.tkc.waiting.filter fun w => w.source != source else s.tkc.waiting := by
  simp [State.tellDrop, State.ringDropB_items, State.dropFromTkc_holdB, State.dropFromTkc_waiting]

theorem State.tellDrop_leaves (s : State) (st : Stream) (source : Nat) :
    s.OnlyLeaveB (s.tellDrop st source) ∧ (s.tellDrop st source).NoTraceOnB st source := by
  obtain ⟨hitems, hhold, hwaiting⟩ := s.tellDrop_lists st source
  refine ⟨⟨?_, ?_, ?_⟩, ?_, ?_, fun hst w hw => ?_⟩
  · rw [hitems]; exact List.filter_subset_self _
  · rw [hhold]; exact List.filter_subset_self _
  · rw [hwaiting]
    split
    · exact List.filter_subset_self _
    · exact List.Subset.refl _
  · simp [hitems]
  · simp [hhold]
  · rw [hwaiting, if_pos hst] at hw
    simpa using (List.mem_filter.1 hw).2

/-- A drop writes of the rings its counter and fault-reported flags alone. -/
theorem State.tellDrop_ring (s : State) (st : Stream) (source : Nat) :
    (s.tellDrop st source).entries st = s.entries st ∧
    ((s.tellDrop st source).ringState st).allocated = (s.ringState st).allocated ∧
    ((s.tellDrop st source).ringState st).head = (s.ringState st).head ∧
    ((s.tellDrop st source).ringState st).reservation = (s.ringState st).reservation := by
  have hring : ((s.tellDrop st source).ringState st).unfaulted = { (s.ringState st).unfaulted with
      counters := { (s.ringState st).counters with laneBDrops := bump (s.ringState st).counters.laneBDrops } } := by
    rw [State.tellDrop, State.ringState_congr (State.dropFromTkc_fsc ..) st, State.ringDropB_unfaulted,
      State.ringState_setRingState]
    rfl
  have hdir := congrArg RingState.dir hring
  have hallocated := congrArg RingState.allocated hring
  have hhead := congrArg RingState.head hring
  have hreservation := congrArg RingState.reservation hring
  exact ⟨hdir, hallocated, hhead, hreservation⟩

/-! ## The walk (R98) -/

/-- From `s` to `t` the `n` oldest units of a ring have left it, each not needed by Lane A and, where Lane B needed it,
gone from Lane B as well; of the entries that stay only fault-reported flags are written. -/
structure State.Walked (s t : State) (st : Stream) (n : Nat) : Prop where
  entries : t.entries st = (s.entries st).drop n
  allocated : (t.ringState st).allocated = (s.ringState st).allocated - granulesOf ((s.entries st).take n)
  head : (t.ringState st).head = (s.ringState st).head
  reservation : (t.ringState st).reservation = (s.ringState st).reservation
  leaves : s.OnlyLeaveB t
  released : ∀ e ∈ (s.entries st).take n, e.needA = false ∧ (e.needB = true → t.NoTraceOnB st e.source)

theorem State.Walked.zero (s : State) (st : Stream) : s.Walked s st 0 where
  entries := rfl
  allocated := rfl
  head := rfl
  reservation := rfl
  leaves := .refl s
  released _ he := absurd he List.not_mem_nil

theorem State.Walked.trans {s t u : State} {st : Stream} {m n : Nat} (h : s.Walked t st m) (g : t.Walked u st n) :
    s.Walked u st (m + n) where
  entries := by rw [g.entries, h.entries, List.drop_drop]
  allocated := by
    rw [g.allocated, h.allocated, h.entries, Nat.sub_sub, List.take_add]
    simp [granulesOf]
  head := g.head.trans h.head
  reservation := g.reservation.trans h.reservation
  leaves := h.leaves.trans g.leaves
  released e he := by
    rw [List.take_add, ← h.entries] at he
    obtain he | he := List.mem_append.1 he
    · obtain ⟨hA, hB⟩ := h.released e he
      exact ⟨hA, fun hneed => (hB hneed).mono g.leaves⟩
    · exact g.released e he

/-- The ring without its tail unit `e`, before Lane B and the TKC are told of it. -/
def State.tailGone (s : State) (st : Stream) (e : DirEntry) : State :=
  let r := (s.ringState st).dropTail [e] (s.ringState st).dir.tail
  s.setRingState st { r with counters := { r.counters with spaceReleases := bump r.counters.spaceReleases } }

theorem State.releaseForSpace_eq (s : State) (st : Stream) (e : DirEntry) :
    s.releaseForSpace st e = if e.needB then (s.tailGone st e).tellDrop st e.source else s.tailGone st e := rfl

theorem State.tailGone_lists (s : State) (st : Stream) (e : DirEntry) : s.OnlyLeaveB (s.tailGone st e) := by
  have hlsB : (s.tailGone st e).lsB = s.lsB := by simp [State.tailGone]
  have htkc : (s.tailGone st e).tkc = s.tkc := by simp [State.tailGone]
  constructor
  · rw [hlsB]; exact List.Subset.refl _
  · rw [htkc]; exact List.Subset.refl _
  · rw [htkc]; exact List.Subset.refl _

theorem State.tailGone_ring (s : State) (st : Stream) (e : DirEntry) :
    (s.tailGone st e).entries st = (s.entries st).tail ∧
    ((s.tailGone st e).ringState st).allocated = (s.ringState st).allocated - e.extent ∧
    ((s.tailGone st e).ringState st).head = (s.ringState st).head ∧
    ((s.tailGone st e).ringState st).reservation = (s.ringState st).reservation := by
  simp [State.tailGone, State.entries, RingState.unfaulted, RingState.dropTail]

theorem State.releaseForSpace_ring (s : State) (st : Stream) (e : DirEntry) :
    (s.releaseForSpace st e).entries st = (s.entries st).tail ∧
    ((s.releaseForSpace st e).ringState st).allocated = (s.ringState st).allocated - e.extent ∧
    ((s.releaseForSpace st e).ringState st).head = (s.ringState st).head ∧
    ((s.releaseForSpace st e).ringState st).reservation = (s.ringState st).reservation := by
  obtain ⟨hentries, hallocated, hhead, hreservation⟩ := s.tailGone_ring st e
  rw [State.releaseForSpace_eq]
  split
  · obtain ⟨hentries', hallocated', hhead', hreservation'⟩ := (s.tailGone st e).tellDrop_ring st e.source
    exact ⟨hentries'.trans hentries, hallocated'.trans hallocated, hhead'.trans hhead,
      hreservation'.trans hreservation⟩
  · exact ⟨hentries, hallocated, hhead, hreservation⟩

theorem State.releaseForSpace_leaves (s : State) (st : Stream) (e : DirEntry) :
    s.OnlyLeaveB (s.releaseForSpace st e) ∧ (e.needB = true → (s.releaseForSpace st e).NoTraceOnB st e.source) := by
  have hgone := s.tailGone_lists st e
  rw [State.releaseForSpace_eq]
  split_ifs with hneed
  · obtain ⟨hleaves, htrace⟩ := (s.tailGone st e).tellDrop_leaves st e.source
    exact ⟨hgone.trans hleaves, fun _ => htrace⟩
  · exact ⟨hgone, fun h => absurd h hneed⟩

/-- The release of the tail unit, which Lane A does not need. -/
theorem State.releaseForSpace_walked {s : State} {st : Stream} {e : DirEntry} {rest : List DirEntry}
    (hdir : (s.ringState st).dir = e :: rest) (hneed : e.needA = false) : s.Walked (s.releaseForSpace st e) st 1 := by
  obtain ⟨hentries, hallocated, hhead, hreservation⟩ := s.releaseForSpace_ring st e
  obtain ⟨hleaves, htrace⟩ := s.releaseForSpace_leaves st e
  have hfirst : (s.entries st).take 1 = [e.unfaulted] := by simp [State.entries, RingState.unfaulted, hdir]
  refine ⟨by rw [hentries, List.drop_one], ?_, hhead, hreservation, hleaves, fun x hx => ?_⟩
  · rw [hallocated, hfirst]
    rfl
  · rw [hfirst, List.mem_singleton] at hx
    subst hx
    exact ⟨hneed, htrace⟩

/-- What is free after a walk of `m` units is what would be free after `m` units. -/
theorem State.Walked.fitsAfter_iff {s t : State} {st : Stream} {m : Nat} (h : s.Walked t st m) (hprs : t.prs = s.prs)
    (size n : Nat) : t.fitsAfter st size n ↔ s.fitsAfter st size (m + n) := by
  rw [State.fitsAfter, State.fitsAfter, State.ringGranules_congr hprs, h.allocated, h.entries, List.length_drop,
    Nat.sub_sub, Nat.sub_sub, List.take_add]
  simp [granulesOf]

/-- The walk's three ends: the request fits, no unit is left, or Lane A needs the tail unit (R98). -/
def State.WalkEnds (s : State) (st : Stream) (size : Nat) : Prop :=
  s.fits st size = true ∨ (s.ringState st).dir = [] ∨ ∃ e, (s.ringState st).dir.head? = some e ∧ e.needA = true

/-- A walk with an entry's worth of fuel for every entry runs to its end, and releases no unit that it need not. -/
theorem State.walk_spec (s : State) (st : Stream) (size : Nat) {k : Nat} (hk : (s.entries st).length ≤ k) :
    ∃ n ≤ (s.entries st).length, s.Walked (s.walk st size k) st n ∧ (s.walk st size k).WalkEnds st size ∧
      (∀ m < n, ¬ s.fitsAfter st size m) ∧ (n = 0 → s.walk st size k = s) := by
  induction k generalizing s with
  | zero =>
    have hempty : (s.ringState st).dir = [] := by
      rw [State.length_entries] at hk
      exact List.length_eq_zero_iff.1 (Nat.le_zero.1 hk)
    exact ⟨0, Nat.zero_le _, .zero s st, .inr (.inl hempty), fun m hm => absurd hm (Nat.not_lt_zero m), fun _ => rfl⟩
  | succ k ih =>
    have hstays : s.walk st size (k + 1) = s → s.WalkEnds st size → ∃ n ≤ (s.entries st).length,
        s.Walked (s.walk st size (k + 1)) st n ∧ (s.walk st size (k + 1)).WalkEnds st size ∧
        (∀ m < n, ¬ s.fitsAfter st size m) ∧ (n = 0 → s.walk st size (k + 1) = s) := fun hsame hends => by
      rw [hsame]
      exact ⟨0, Nat.zero_le _, .zero s st, hends, fun m hm => absurd hm (Nat.not_lt_zero m), fun _ => rfl⟩
    by_cases hfits : s.fits st size = true
    · exact hstays (by simp [State.walk, hfits]) (.inl hfits)
    · cases hdir : (s.ringState st).dir with
      | nil => exact hstays (by simp [State.walk, hfits, hdir]) (.inr (.inl hdir))
      | cons e rest =>
        by_cases hneed : e.needA = true
        · exact hstays (by simp [State.walk, hfits, hdir, hneed]) (.inr (.inr ⟨e, by rw [hdir]; rfl, hneed⟩))
        · have hstep : s.walk st size (k + 1) = (s.releaseForSpace st e).walk st size k := by
            simp [State.walk, hfits, hdir, hneed]
          have hone := State.releaseForSpace_walked hdir (Bool.eq_false_iff.2 hneed)
          have hlength : ((s.releaseForSpace st e).entries st).length = (s.entries st).length - 1 := by
            rw [hone.entries, List.length_drop]
          have hsome : 1 ≤ (s.entries st).length := by rw [State.length_entries, hdir]; exact Nat.succ_pos _
          obtain ⟨n, hn, hwalked, hends, hbefore, -⟩ := ih (s.releaseForSpace st e) (by omega)
          rw [hstep]
          refine ⟨1 + n, by omega, hone.trans hwalked, hends, fun m hm => ?_, fun h => by omega⟩
          cases m with
          | zero => rwa [State.fitsAfter_zero]
          | succ m =>
            rw [Nat.add_comm m, ← hone.fitsAfter_iff (by simp)]
            exact hbefore m (by omega)

end Sys2Proof.Machine
end

section
/-! A picture start at the FSC: the unit reserved, or the spill (R67, R97, R99 to R101). -/

namespace Sys2Proof.Machine

/-! ## Reading the state at a picture start -/

theorem State.ringState_setWs (s : State) (st : Stream) (w : WorkingSet) (st' : Stream) :
    (s.setWs st w).ringState st' = s.ringState st' := State.ringState_congr (by simp) st'

theorem State.ringState_editRecord (s : State) (source : Nat) (f : PicRecord → PicRecord) (st : Stream) :
    (s.editRecord source f).ringState st = s.ringState st := State.ringState_congr (by simp) st

theorem State.ws_editRecord (s : State) (source : Nat) (f : PicRecord → PicRecord) (st : Stream) :
    (s.editRecord source f).ws st = s.ws st := State.ws_congr rfl (by cases st <;> rfl)

theorem State.ws_setRingState (s : State) (st : Stream) (r : RingState) (st' : Stream) :
    (s.setRingState st r).ws st' = s.ws st' := State.ws_congr (by simp) (by cases st <;> cases st' <;> rfl)

/-- A stream's state written in a record is read back there. -/
theorem State.stateOf_editRecord {s : State} {source : Nat} {st : Stream} {x : StreamState} {r : PicRecord}
    (h : (s.editRecord source fun r => r.withState st x).record source = some r) : r.stateOf st = some x := by
  have hsource : r.source = source := State.record_source h
  obtain ⟨q, -, rfl⟩ := List.mem_map.1 (List.mem_of_find?_eq_some h)
  by_cases hq : q.source = source
  · simp only [hq, beq_self_eq_true, if_true]
    cases st <;> rfl
  · simp [hq] at hsource

/-! ## The spill (R99 to R101) -/

theorem State.notify_setRingState (s : State) (st : Stream) (r : RingState) (n : Notice) :
    (s.setRingState st r).notify n = { s.setRingState st r with lsA := s.lsA.enqueue 32 (.notice n) } := by
  cases st <;> rfl

/-- A spill in the FSC: its counter by its reason, the latch, and one notice for a run of spills. -/
theorem State.noteSpill_eq {s : State} {st : Stream} {size : Nat} {reason : SpillReason}
    (hreason : reason = s.spillReason st size) (source : Nat) :
    s.noteSpill st source size = { s.setRingState st { s.ringState st with
        spillLatch := true
        counters := { (s.ringState st).counters with
          spillsSpace := if reason = .space then bump (s.ringState st).counters.spillsSpace
            else (s.ringState st).counters.spillsSpace
          spillsDirectory := if reason = .directory then bump (s.ringState st).counters.spillsDirectory
            else (s.ringState st).counters.spillsDirectory } } with
      lsA := if (s.ringState st).spillLatch then s.lsA
        else s.lsA.enqueue 32 (.notice (.spill st source reason
          (if reason = .space then size - s.freeGranules st else 0)
          ((s.ringState st).dir.head?.map DirEntry.source))) } := by
  simp only [State.noteSpill, ← hreason, State.notify_setRingState]
  by_cases hlatch : (s.ringState st).spillLatch = true
  · rw [if_pos hlatch, if_pos hlatch]
    cases reason <;> cases st <;> rfl
  · rw [if_neg hlatch, if_neg hlatch]
    cases reason <;> cases st <;> rfl

theorem State.noteSpill_ring (s : State) (st : Stream) (source size : Nat) :
    ∃ c, (s.noteSpill st source size).ringState st = { s.ringState st with spillLatch := true, counters := c } := by
  rw [State.noteSpill_eq rfl]
  exact ⟨_, (State.ringState_congr rfl st).trans (State.ringState_setRingState ..)⟩

theorem State.noteSpill_ws (s : State) (st : Stream) (source size : Nat) (st' : Stream) :
    (s.noteSpill st source size).ws st' = s.ws st' := State.ws_congr (by simp) (by cases st' <;> simp)

/-! ## A row of a spilled proxy picture (R68, R73) -/

theorem State.endTurn_turn (s : State) : s.endTurn.tc.turn = none := rfl

theorem State.endTurn_tc (s : State) : s.endTurn.tc = { s.tc with turn := none } := by
  unfold State.endTurn
  split
  · split <;> rfl
  · rfl

theorem State.endTurn_ws (s : State) (st : Stream) : s.endTurn.ws st = s.ws st := by
  cases st <;> simp [State.ws, State.endTurn_tc]

theorem State.ringState_endTurn (s : State) (st : Stream) : s.endTurn.ringState st = s.ringState st :=
  State.ringState_congr (by simp) st

theorem State.endSpilled_p_noDir (s : State) (source : Nat) (st : Stream) :
    ((s.endSpilled .p source).ringState st).noDir = (s.ringState st).noDir := by
  rw [State.endSpilled, State.finish_noDir, State.ringState_setWs]
  exact congrArg _ (State.ringState_congr rfl st)

theorem State.discardRow_p_noDir (s : State) (p : ProfileRec) (st : Stream) :
    ((s.discardRow .p p).ringState st).noDir = (s.ringState st).noDir := by
  unfold State.discardRow
  dsimp only
  rw [State.ringState_endTurn]
  split
  · split
    · exact s.endSpilled_p_noDir ..
    · rfl
  · rw [State.ringState_setWs]

theorem State.discardRow_p_within {s : State} {p : ProfileRec} (h : (s.ws .p).row + 1 ≠ p.rows) :
    s.discardRow .p p = (s.setWs .p { s.ws .p with row := (s.ws .p).row + 1 }).endTurn := by
  simp [State.discardRow, h]

/-! ## The start (R67, R97, R100) -/

/-- The start of a picture whose request fits, behind the walk. -/
def State.unitReserved (u : State) (st : Stream) (source : Nat) (p : ProfileRec) : State :=
  ((u.makeReservation st p.granules).setWs st { u.ws st with
    state := .coding, unitPos := some (u.ringState st).head }).editRecord source fun r => r.withState st .coding

/-- The start of a proxy picture whose request does not fit, behind the walk and before its first row is discarded. -/
def State.proxySpilled (u : State) (source : Nat) (p : ProfileRec) : State :=
  ((u.noteSpill .p source p.granules).setWs .p { u.ws .p with state := .discarding }).editRecord source
    fun r => r.withState .p .coding

theorem State.reserveAndStart_of_fits {s u : State} {st : Stream} {p : ProfileRec}
    (hu : u = s.walk st p.granules (s.ringState st).dir.length) (hfits : u.fits st p.granules = true) (source : Nat) :
    s.reserveAndStart st source p = u.unitReserved st source p := by
  have hws : (u.makeReservation st p.granules).ws st = u.ws st := State.ws_setRingState ..
  simp only [State.reserveAndStart, ← hu, if_pos hfits, hws, State.unitReserved]

theorem State.reserveAndStart_p_of_spill {s u : State} {p : ProfileRec}
    (hu : u = s.walk .p p.granules (s.ringState .p).dir.length) (hfits : u.fits .p p.granules = false) (source : Nat) :
    s.reserveAndStart .p source p = (u.proxySpilled source p).discardRow .p p := by
  simp only [State.reserveAndStart, ← hu, hfits, State.spill, State.noteSpill_ws, State.proxySpilled]
  rfl

theorem State.unitReserved_ring (u : State) (st : Stream) (source : Nat) (p : ProfileRec) :
    (u.unitReserved st source p).ringState st = { u.ringState st with
      reservation := some ⟨(u.ringState st).head, p.granules⟩, running := 0, rowOffsets := [], spillLatch := false
      counters := { (u.ringState st).counters with reservations := bump (u.ringState st).counters.reservations } } := by
  rw [State.unitReserved, State.ringState_editRecord, State.ringState_setWs, State.makeReservation,
    State.ringState_setRingState]

theorem State.unitReserved_rest (u : State) (st : Stream) (source : Nat) (p : ProfileRec) :
    (u.unitReserved st source p).ws st = { u.ws st with
      state := .coding, unitPos := some (u.ringState st).head } ∧
    (u.unitReserved st source p).tkc = u.tkc ∧ (u.unitReserved st source p).lsA = u.lsA ∧
    (u.unitReserved st source p).lsB = u.lsB ∧ (u.unitReserved st source p).ti.fifo = u.ti.fifo := by
  refine ⟨?_, ?_, ?_, ?_, ?_⟩
  · rw [State.unitReserved, State.ws_editRecord, State.ws_setWs]
  all_goals simp [State.unitReserved, State.editRecord]

theorem State.proxySpilled_ring (u : State) (source : Nat) (p : ProfileRec) :
    ∃ c, (u.proxySpilled source p).ringState .p = { u.ringState .p with spillLatch := true, counters := c } := by
  rw [State.proxySpilled, State.ringState_editRecord, State.ringState_setWs]
  exact u.noteSpill_ring ..

theorem State.proxySpilled_ws (u : State) (source : Nat) (p : ProfileRec) :
    (u.proxySpilled source p).ws .p = { u.ws .p with state := .discarding } := by
  rw [State.proxySpilled, State.ws_editRecord, State.ws_setWs]

/-- A spilled proxy picture: nothing is reserved, the turn ends, and of a picture with more rows one row is consumed. -/
theorem State.discardRow_proxySpilled {u t : State} {source : Nat} {p : ProfileRec}
    (ht : t = (u.proxySpilled source p).discardRow .p p) :
    (t.ringState .p).reservation = (u.ringState .p).reservation ∧ (t.ringState .p).spillLatch = true ∧
    t.tc.turn = none ∧ (t.ringState .p).allocated = (u.ringState .p).allocated ∧
    ((u.ws .p).row + 1 ≠ p.rows → (t.ws .p).state = .discarding ∧ (t.ws .p).row = (u.ws .p).row + 1 ∧
      (t.ringState .p).dir = (u.ringState .p).dir) := by
  obtain ⟨c, hspilled⟩ := u.proxySpilled_ring source p
  have hws := u.proxySpilled_ws source p
  have hring : (t.ringState .p).noDir =
      ({ u.ringState .p with spillLatch := true, counters := c } : RingState).noDir := by
    rw [ht, State.discardRow_p_noDir, hspilled]
  have hreservation := congrArg RingState.reservation hring
  have hlatch := congrArg RingState.spillLatch hring
  have hallocated := congrArg RingState.allocated hring
  refine ⟨hreservation, hlatch, by rw [ht]; exact State.endTurn_turn _, hallocated, fun hmore => ?_⟩
  have hwithin : ((u.proxySpilled source p).ws .p).row + 1 ≠ p.rows := by rw [hws]; exact hmore
  rw [ht, State.discardRow_p_within hwithin, State.endTurn_ws, State.ws_setWs, State.ringState_endTurn,
    State.ringState_setWs, hspilled, hws]
  exact ⟨rfl, rfl, rfl⟩

/-! ## The obligation -/

theorem State.sources_entries (s : State) (st : Stream) :
    (s.entries st).map DirEntry.source = (s.ringState st).dir.map DirEntry.source := by
  simp only [State.entries, RingState.unfaulted, List.map_map]
  rfl

theorem State.granulesOf_entries (s : State) (st : Stream) (n : Nat) :
    granulesOf ((s.entries st).take n) = (((s.ringState st).dir.take n).map fun e => (e.length + 63) / 64).sum := by
  simp only [granulesOf, State.entries, RingState.unfaulted, ← List.map_take, List.map_map]
  rfl

/-- Settles O31: what fits, the walk, the start behind it by whether the request then fits, and the spill. -/
theorem reservationMakesRoomOrSpills : Obligations.ReservationMakesRoomOrSpills := by
  refine ⟨fun s st size => ?fits, fun s t st size ht => ?walk,
    fun s u t st source p hu ht => ⟨fun hfits => ?reserved, ?spilled⟩,
    fun s st source size reason hreason => ⟨State.noteSpill_eq hreason source, rfl, rfl⟩⟩
  case fits => rw [State.fits_iff, State.ringGranules_eq]
  case walk =>
    obtain ⟨n, hn, hwalked, hends, hbefore, hnone⟩ := s.walk_spec st size (Nat.le_of_eq (s.length_entries st))
    rw [← ht] at hwalked hends hnone
    rw [State.length_entries] at hn
    refine ⟨n, hn, ?_, ?_, hwalked.head, hwalked.reservation, fun e he => ?_, hends, fun m hm => ?_, hnone, ?_⟩
    · rw [← State.sources_entries, hwalked.entries, List.map_drop, State.sources_entries, List.map_drop]
    · rw [hwalked.allocated, State.granulesOf_entries]
    · have hentry : e.unfaulted ∈ (s.entries st).take n := by
        rw [State.entries, RingState.unfaulted, ← List.map_take]
        exact List.mem_map_of_mem he
      exact hwalked.released e.unfaulted hentry
    · have hnot := hbefore m hm
      rwa [State.fitsAfter, State.ringGranules_eq, State.granulesOf_entries, State.length_entries] at hnot
    · simp [ht]
  case reserved =>
    rw [ht, State.reserveAndStart_of_fits hu hfits]
    obtain ⟨hws, htkc, hlsA, hlsB, hentries⟩ := u.unitReserved_rest st source p
    exact ⟨u.unitReserved_ring st source p, hws, htkc, hlsA, hlsB, hentries, fun r => State.stateOf_editRecord⟩
  case spilled =>
    rintro hfits rfl
    exact State.discardRow_proxySpilled (ht.trans (State.reserveAndStart_p_of_spill hu hfits source))

end Sys2Proof.Machine
end

section
/-! The stride of rung selection: the quotient of the deviation by the row target, rounded half up (R80 to R82). -/

namespace Sys2Proof.Machine

/-- Outside the dead band the rounded quotient is at least 1. -/
theorem one_le_roundedQuotient {t a : Nat} (ht : 1 ≤ t) (hband : t ≤ 2 * a) : 1 ≤ (2 * a + t) / (2 * t) :=
  Nat.div_pos (by omega) (by omega)

/-- The rounded quotient lies within a half of |dev| over t, and a half is rounded up. -/
theorem roundedQuotient_bounds {t m : Nat} (a : Nat) (ht : 1 ≤ t) (hm : m = (2 * a + t) / (2 * t)) :
    (2 * m - 1) * t ≤ 2 * a ∧ 2 * a < (2 * m + 1) * t := by
  have hfloor : 2 * t * m ≤ 2 * a + t := hm ▸ Nat.mul_div_le ..
  have hnext : 2 * a + t < 2 * t * (m + 1) := hm ▸ Nat.lt_mul_div_succ _ (by omega)
  have hdouble : 2 * t * m = 2 * m * t := Nat.mul_right_comm ..
  rw [Nat.sub_mul, Nat.add_mul, Nat.one_mul]
  rw [Nat.mul_add, Nat.mul_one] at hnext
  omega

/-- The stride at the stream F figures, the divisor worked out. -/
theorem ProfileRec.strideFor_streamF {p : ProfileRec} (ht : p.rowTarget = 7723) (hM : p.stride = 2) (a : Nat) :
    p.strideFor a = min ((2 * a + 7723) / 15446) 2 := by
  rw [ProfileRec.strideFor, ht, hM]

/-- Settles O30: the rounding from the two multiples of 2t about the quotient, the move outside the dead band, and the
rows of Table 5-2. -/
theorem strideIsTheRoundedQuotient : Obligations.StrideIsTheRoundedQuotient := by
  refine ⟨fun p a ht hband => ?rounding, fun p row coded q debt _ hband => ?move, fun p ht hM => ?table⟩
  case rounding =>
    obtain ⟨hbelow, habove⟩ := roundedQuotient_bounds a ht rfl
    exact ⟨_, rfl, rfl, one_le_roundedQuotient ht hband, hbelow, habove⟩
  case move => exact congrArg Prod.fst (ProfileRec.selectRung_of_moved hband)
  case table =>
    simp only [ProfileRec.strideFor_streamF ht hM, ht]
    decide

end Sys2Proof.Machine
end

section
/-! Bytes written into a ring read back, and every address they do not reach keeps its byte (R95, R102). -/

namespace Sys2Proof.Machine

theorem Ring.address_lt_store {r : Ring} (h : r.inStore) (x : Nat) : r.address x < storeBytes := by
  obtain ⟨hpages, hend⟩ := h
  obtain ⟨-, hlt⟩ := r.address_bounds hpages x
  have hstore : (r.base + r.pages) * pageBytes ≤ 65536 * pageBytes := Nat.mul_le_mul_right _ hend
  exact Nat.lt_of_lt_of_le hlt hstore

theorem Ring.covers_address {r : Ring} (h : 1 ≤ r.pages) (x : Nat) : r.covers (r.address x) := r.address_bounds h x

/-- Two offsets that lie less than a ring apart have different addresses. -/
theorem Ring.address_ne {r : Ring} {x k : Nat} (hpos : 0 < k) (hk : k < r.bytes) :
    r.address (x + k) ≠ r.address x := by
  intro h
  have hmod : (x + k) % r.bytes = (x + 0) % r.bytes := by simpa [Ring.address] using h
  have hk0 : k % r.bytes = 0 % r.bytes := Nat.ModEq.add_left_cancel' x hmod
  rw [Nat.mod_eq_of_lt hk, Nat.zero_mod] at hk0
  omega

/-- Two different offsets of one stretch no longer than the ring have different addresses. -/
theorem Ring.address_ne_of_lt {r : Ring} {x i j n : Nat} (hn : n ≤ r.bytes) (hij : i < j) (hj : j < n) :
    r.address (x + j) ≠ r.address (x + i) := by
  have hstep : x + j = x + i + (j - i) := by omega
  rw [hstep]
  exact Ring.address_ne (by omega) (by omega)

theorem Mem.read_writeRing_other {r : Ring} {m : List Host.Cell} (h : Mem.wf m = true) {x : Nat} {bytes : List Byte}
    {a : Nat} (ha : ∀ i, i < bytes.length → r.address (x + i) ≠ a) :
    Mem.read (Mem.writeRing r m x bytes) a = Mem.read m a := by
  induction bytes generalizing m x with
  | nil => rfl
  | cons b rest ih =>
    have hhead : r.address x ≠ a := ha 0 (by simp)
    have hrest : ∀ i, i < rest.length → r.address (x + 1 + i) ≠ a := fun i hi => by
      have hnext := ha (i + 1) (by simpa using hi)
      rwa [show x + (i + 1) = x + 1 + i by omega] at hnext
    rw [Mem.writeRing, ih (Mem.wf_write h _ _) hrest, Mem.read_write_other h hhead]

theorem Mem.read_writeRing {r : Ring} (hr : r.inStore) {m : List Host.Cell} (h : Mem.wf m = true) {x : Nat}
    {bytes : List Byte} (hlen : bytes.length ≤ r.bytes) {i : Nat} (hi : i < bytes.length) :
    Mem.read (Mem.writeRing r m x bytes) (r.address (x + i)) = bytes.getD i 0 := by
  induction bytes generalizing m x i with
  | nil => exact absurd hi (Nat.not_lt_zero i)
  | cons b rest ih =>
    have hwf := Mem.wf_write h (r.address x) b
    simp only [List.length_cons] at hlen hi
    cases i with
    | zero =>
      have hkept : ∀ i, i < rest.length → r.address (x + 1 + i) ≠ r.address (x + 0) := fun i hi => by
        rw [Nat.add_assoc x 1 i]
        exact Ring.address_ne_of_lt hlen (by omega) (by omega)
      rw [Mem.writeRing, Mem.read_writeRing_other hwf hkept, Nat.add_zero,
        Mem.read_write h (Ring.address_lt_store hr x), if_pos rfl]
      rfl
    | succ i =>
      rw [Mem.writeRing, show x + (i + 1) = x + 1 + i by omega, ih hwf (by omega) (by omega)]
      rfl

/-! ## A row in its reservation (R95, R102) -/

theorem State.writeRow_eq {s : State} {st : Stream} {v : Reservation} {g : Ring}
    (hv : (s.ringState st).reservation = some v) (hg : (s.tables st).ring = some g) (rows : Nat) (bytes : List Byte) :
    s.writeRow st rows bytes =
      { s.setRingState st { s.ringState st with
          running := (s.ringState st).running + bytes.length
          rowOffsets := (s.ringState st).rowOffsets ++ [64 + 4 * rows + (s.ringState st).running] } with
        dram := Mem.writeRing g s.dram (v.start * 64 + (64 + 4 * rows + (s.ringState st).running)) bytes
        wordErrors := clearErrors g (v.start * 64 + (64 + 4 * rows + (s.ringState st).running)) bytes.length
          s.wordErrors } := by
  simp only [State.writeRow, hv, hg]

/-- Settles O33: the writing of the row is one write into the ring, at the row's place behind the reservation's start. -/
theorem rowIsStoredInItsReservation : Obligations.RowIsStoredInItsReservation := by
  intro s st rows bytes v g hwf hv hg hstore hlen
  rw [State.writeRow_eq hv hg]
  refine ⟨fun i hi => Mem.read_writeRing hstore hwf hlen hi, fun a ha => Mem.read_writeRing_other hwf ha, ?_, ?_⟩
  · cases st <;> rfl
  · cases st <;> rfl

end Sys2Proof.Machine
end

section
/-! The DRAM under a step (R102, R104): CODE_TILE writes rows and fronts into the rings, and no other command writes. -/

namespace Sys2Proof.Machine

/-! ## What a write into a ring that is set keeps -/

/-- A state reached with the tables as they were and a DRAM that is as canonical as it was and, in a canonical DRAM
whose rings lie in the store, differs in the rings alone. -/
structure State.WritesRings (s t : State) : Prop where
  prs : t.prs = s.prs
  wf : Mem.wf s.dram = true → Mem.wf t.dram = true
  outside : Mem.wf s.dram = true → s.ringsApart → ∀ a, ¬ s.inSomeRing a → Mem.read t.dram a = Mem.read s.dram a

theorem State.inSomeRing_of_covers {s : State} {st : Stream} {g : Ring} (hg : (s.tables st).ring = some g) {a : Nat}
    (ha : g.covers a) : s.inSomeRing a := by
  cases st with
  | f => exact .inl ⟨g, hg, ha⟩
  | p => exact .inr ⟨g, hg, ha⟩

theorem State.ringsApart.inStore {s : State} (hs : s.ringsApart) {st : Stream} {g : Ring}
    (hg : (s.tables st).ring = some g) : g.inStore := by
  obtain ⟨hf, hp, -⟩ := hs
  cases st with
  | f => exact hf g hg
  | p => exact hp g hg

theorem State.inSomeRing_of_prs {s t : State} (h : t.prs = s.prs) (a : Nat) : t.inSomeRing a ↔ s.inSomeRing a := by
  rw [State.inSomeRing, State.inSomeRing, h]

namespace State.WritesRings

theorem of_dram {s t : State} (hprs : t.prs = s.prs) (hdram : t.dram = s.dram) : s.WritesRings t where
  prs := hprs
  wf h := by rwa [hdram]
  outside _ _ _ _ := by rw [hdram]

theorem trans {s t u : State} (h : s.WritesRings t) (g : t.WritesRings u) : s.WritesRings u where
  prs := g.prs.trans h.prs
  wf hs := g.wf (h.wf hs)
  outside hs hapart a ha := by
    have hrings : t.ringsApart := State.ringsApart_of_rings (State.rings_of_prs h.prs) hapart
    have ha' : ¬ t.inSomeRing a := fun hin => ha ((State.inSomeRing_of_prs h.prs a).1 hin)
    exact (g.outside (h.wf hs) hrings a ha').trans (h.outside hs hapart a ha)

theorem of_writeRing {s t : State} {st : Stream} {g : Ring} (hg : (s.tables st).ring = some g) {x : Nat}
    {bytes : List Byte} (hprs : t.prs = s.prs) (hdram : t.dram = Mem.writeRing g s.dram x bytes) :
    s.WritesRings t where
  prs := hprs
  wf hs := by rw [hdram]; exact Mem.wf_writeRing g hs x bytes
  outside hs hapart a ha := by
    obtain ⟨hpages, -⟩ := hapart.inStore hg
    rw [hdram]
    refine Mem.read_writeRing_other hs fun i _ heq => ha ?_
    exact State.inSomeRing_of_covers hg (heq ▸ Ring.covers_address hpages _)

/-! ## The operations of CODE_TILE (R69 to R72, R102 to R106) -/

theorem writeRow (s : State) (st : Stream) (rows : Nat) (bytes : List Byte) :
    s.WritesRings (s.writeRow st rows bytes) := by
  cases hv : (s.ringState st).reservation with
  | none => exact of_dram (by simp) (by simp [State.writeRow, hv])
  | some v =>
    cases hg : (s.tables st).ring with
    | none => exact of_dram (by simp) (by simp [State.writeRow, hg])
    | some g => exact of_writeRing hg (by simp) (by rw [State.writeRow_eq hv hg])

/-- The row offset table is written, then the header (R104). -/
theorem writeFront {s : State} {st : Stream} {g : Ring} (hg : (s.tables st).ring = some g) (c : Completion)
    (start : Nat) : s.WritesRings (s.writeFront st c start g) := by
  have htable : s.WritesRings { s with
      dram := Mem.writeRing g s.dram (start * 64 + 64) ((s.ringState st).rowOffsets.flatMap (be 4)) } :=
    of_writeRing hg rfl rfl
  refine htable.trans (of_writeRing (st := st) (g := g) (x := start * 64) (bytes := c.header st) ?_ ?_ ?_)
  · cases st <;> exact hg
  · simp
  · simp only [State.writeFront]

theorem completeUnit (s : State) (st : Stream) (c : Completion) : s.WritesRings (s.completeUnit st c) := by
  unfold State.completeUnit
  split
  · next v g _ hg => exact (writeFront hg c v.start).trans (of_dram (by simp) (by simp))
  · exact of_dram rfl rfl

theorem endPicture (s : State) (st : Stream) (source : Nat) (p : ProfileRec) :
    s.WritesRings (s.endPicture st source p) := by
  cases st <;> exact (of_dram (by simp) (by simp)).trans (completeUnit ..)

theorem endRow (s : State) (t : Turn) (p : ProfileRec) : s.WritesRings (s.endRow t p) := by
  have hrow : s.WritesRings ((s.writeRow t.stream p.rows t.rowBytes).setWs t.stream
      (((s.writeRow t.stream p.rows t.rowBytes).ws t.stream).afterRow p)) :=
    (writeRow s t.stream p.rows t.rowBytes).trans (of_dram (by simp) (by simp))
  have hend : ∀ u : State, u.WritesRings u.endTurn := fun u => of_dram (by simp) (by simp)
  simp only [State.endRow]
  split
  · split
    · exact (hrow.trans (endPicture ..)).trans (hend _)
    · exact hrow.trans (hend _)
  · exact hrow.trans (hend _)

theorem codePiece (s : State) (t : Turn) (p : ProfileRec) (x : Piece) : s.WritesRings (s.codePiece t p x) := by
  have hpiece : ∀ (u : State) w turn n, u.prs = s.prs → u.dram = s.dram → s.WritesRings { u.setWs t.stream w with
      freeTick := n, tc := { (u.setWs t.stream w).tc with turn := turn } } := fun u w turn n hprs hdram =>
    of_dram (by simpa using hprs) (by simpa using hdram)
  simp only [State.codePiece]
  split
  · refine State.WritesRings.trans (hpiece _ _ _ _ ?_ ?_) (endRow ..) <;> split <;> simp
  · refine hpiece _ _ _ _ ?_ ?_ <;> split <;> simp

theorem codeTile (s : State) : s.WritesRings s.codeTile := by
  have hsame : s.WritesRings s := of_dram rfl rfl
  unfold State.codeTile
  split
  · exact hsame
  · split
    · exact hsame
    · split
      case h_1 => exact codePiece ..
      all_goals exact hsame

end State.WritesRings

/-! ## The owners of the directives leave the DRAM -/

/-- An execution leaves the DRAM if the owner does. -/
theorem State.dram_execute {k : DirKind} {owner : Directive → State → Taken}
    (howner : ∀ d t, (owner d t).state.dram = t.dram) (s : State) : (s.execute k owner).dram = s.dram :=
  State.execute_induction (P := fun t => t.dram = s.dram) rfl (fun _ _ _ _ h => by simpa using h)
    (fun d => (howner d _).trans (by simp))

theorem State.loadF_dram (s : State) (x : Settings) (clamped : Bool) : (s.loadF x clamped).state.dram = s.dram := by
  simp only [State.loadF]; split <;> simp

theorem State.loadP_dram (s : State) (x : Settings) (clamped : Bool) : (s.loadP x clamped).state.dram = s.dram := by
  simp [State.loadP]

theorem ownLoadProfile_dram (d : Directive) (s : State) : (ownLoadProfile d s).state.dram = s.dram := by
  unfold ownLoadProfile; (repeat' split) <;> simp [refuse, State.loadF_dram, State.loadP_dram]

theorem ownLoadLadder_dram (d : Directive) (s : State) : (ownLoadLadder d s).state.dram = s.dram := by
  simp only [ownLoadLadder]; (repeat' split) <;> simp [refuse]

theorem ownSetRing_dram (d : Directive) (s : State) : (ownSetRing d s).state.dram = s.dram := by
  simp only [ownSetRing]; (repeat' split) <;> simp [refuse]

theorem ownSetLanes_dram (d : Directive) (s : State) : (ownSetLanes d s).state.dram = s.dram := by
  unfold ownSetLanes; (repeat' split) <;> rfl

theorem ownSetLaneBFeed_dram (d : Directive) (s : State) : (ownSetLaneBFeed d s).state.dram = s.dram := by
  unfold ownSetLaneBFeed; split <;> rfl

theorem ownSetTrigger_dram (d : Directive) (s : State) : (ownSetTrigger d s).state.dram = s.dram := by
  unfold ownSetTrigger; split <;> rfl

theorem ownSetTimecode_dram (d : Directive) (s : State) : (ownSetTimecode d s).state.dram = s.dram := by
  simp only [ownSetTimecode]; (repeat' split) <;> simp [refuse]

theorem ownJam_dram (d : Directive) (s : State) : (ownJam d s).state.dram = s.dram := by
  simp only [ownJam]; (repeat' split) <;> rfl

theorem ownDisarm_dram (d : Directive) (s : State) : (ownDisarm d s).state.dram = s.dram := by
  unfold ownDisarm; split <;> rfl

theorem ownStart_dram (d : Directive) (s : State) : (ownStart d s).state.dram = s.dram := by
  simp only [ownStart]; split <;> simp [refuse]

theorem ownStop_dram (d : Directive) (s : State) : (ownStop d s).state.dram = s.dram := by
  simp only [ownStop]; (repeat' split) <;> simp [refuse]

theorem ownMark_dram (d : Directive) (s : State) : (ownMark d s).state.dram = s.dram := by
  simp only [ownMark]; (repeat' split) <;> simp [refuse]

theorem ownReadTake_dram (d : Directive) (s : State) : (ownReadTake d s).state.dram = s.dram := by
  unfold ownReadTake; split <;> rfl

theorem State.clearGroup_dram (s : State) (g : Group) : (s.clearGroup g).dram = s.dram := by
  cases g <;> rfl

theorem ownQuery_dram (d : Directive) (s : State) : (ownQuery d s).state.dram = s.dram := by
  simp only [ownQuery]; (repeat' split) <;> simp [refuse, State.clearGroup_dram]

/-- RESET leaves the DRAM: its blocks are the register blocks alone. -/
theorem ownReset_dram (d : Directive) (s : State) : (ownReset d s).state.dram = s.dram := by
  simp [ownReset, State.resetPlane_eq, State.resetBlocks]

/-! ## The commands -/

/-- Every command but CODE_TILE leaves the DRAM as it was; that the reset line does is log 6. -/
theorem exec_dram {c : Instr} {s t : State} (hc : c ≠ .codeTile) (h : exec c s = .next t) : t.dram = s.dram := by
  have hnext : ∀ {u : State}, exec c s = .next u → u.dram = s.dram → t.dram = s.dram := fun hu hdram => by
    cases hu.symm.trans h; exact hdram
  cases c with
  | codeTile => exact absurd rfl hc
  | loadProfile => exact hnext rfl (State.dram_execute ownLoadProfile_dram s)
  | loadLadder => exact hnext rfl (State.dram_execute ownLoadLadder_dram s)
  | setRing => exact hnext rfl (State.dram_execute ownSetRing_dram s)
  | setLanes => exact hnext rfl (State.dram_execute ownSetLanes_dram s)
  | setLaneBFeed => exact hnext rfl (State.dram_execute ownSetLaneBFeed_dram s)
  | setTrigger => exact hnext rfl (State.dram_execute ownSetTrigger_dram s)
  | setTimecode => exact hnext rfl (State.dram_execute ownSetTimecode_dram s)
  | jam => exact hnext rfl (State.dram_execute ownJam_dram s)
  | arm => exact hnext rfl (State.dram_execute (fun _ _ => rfl) s)
  | disarm => exact hnext rfl (State.dram_execute ownDisarm_dram s)
  | start => exact hnext rfl (State.dram_execute ownStart_dram s)
  | stop => exact hnext rfl (State.dram_execute ownStop_dram s)
  | mark => exact hnext rfl (State.dram_execute ownMark_dram s)
  | query => exact hnext rfl (State.dram_execute ownQuery_dram s)
  | readTake => exact hnext rfl (State.dram_execute ownReadTake_dram s)
  | clearTakes => exact hnext rfl (State.dram_execute (fun _ _ => rfl) s)
  | reset => exact hnext rfl (State.dram_execute ownReset_dram s)
  | unknownDirective =>
    simp only [exec, execUnknownDirective] at h
    split at h
    · cases h; rfl
    · split at h <;> cases h <;> simp
  | resetLine => exact hnext rfl rfl
  | headerFailure | badPacket | openPacket | tilePacket | closePacket | directivePacket | fillPacket
  | refPulse | refLost | trigEdge | creditPulse | laneStall | lanePacketSent | arbiterChoice | handOver | passByEntry
  | passByRow | restart => exact hnext rfl (by simp)

/-- A step leaves the DRAM, or it is CODE_TILE's, which writes into the rings. -/
theorem step_writes {s t : State} (h : step s = .next t) : t.dram = s.dram ∨ s.WritesRings t := by
  unfold step at h
  split at h
  · cases h; exact .inl rfl
  · next c rest _ =>
    by_cases hc : c = .codeTile
    · subst hc; cases h
      have hqueue : s.WritesRings { s with pending := rest } := .of_dram rfl rfl
      exact .inr (hqueue.trans (.codeTile _))
    · have hdram : t.dram = ({ s with pending := rest } : State).dram := exec_dram hc h
      exact .inl hdram

/-- Settles O6: a step leaves the DRAM or writes into a ring, and both keep the form. -/
theorem dramStaysCanonical : Obligations.DramStaysCanonical := by
  intro s t hs h
  obtain hdram | hwrites := step_writes h
  · rwa [hdram]
  · exact hwrites.wf hs

/-- Settles O7: a ring's addresses lie in its own pages, and only CODE_TILE writes into one. -/
theorem onlyCodeTileWritesTheDramAndOnlyInRings : Obligations.OnlyCodeTileWritesTheDramAndOnlyInRings := by
  refine ⟨fun s t a hs hapart h ha => ?_, fun c s t hc h => exec_dram hc h⟩
  obtain hdram | hwrites := step_writes h
  · rw [hdram]
  · exact hwrites.outside hs hapart a ha

end Sys2Proof.Machine
end

section
/-! Ordinary release (R108, R109): the free tail leaves the directory, and the ring's counts follow. -/

namespace Sys2Proof.Machine

theorem State.releasable_iff (s : State) (e : DirEntry) :
    s.releasable e = true ↔ e.needA = false ∧ e.needB = false ∧ s.retained e = false := by
  simp [State.releasable, and_assoc]

/-- The entries that ordinary release takes from a ring's tail. -/
def State.freeTail (s : State) (st : Stream) : List DirEntry := (s.ringState st).dir.takeWhile s.releasable

theorem State.releasable_of_freeTail {s : State} {st : Stream} {e : DirEntry} (h : e ∈ s.freeTail st) :
    s.releasable e = true := List.mem_takeWhile_imp h

theorem State.ordinaryRelease_of_no_tail {s : State} {st : Stream} (h : s.freeTail st = []) :
    s.ordinaryRelease st = s := by
  rw [State.freeTail] at h
  simp [State.ordinaryRelease, h]

/-- The ring once its free tail has left: the tail moves to the next entry, or to the head. -/
theorem State.ordinaryRelease_of_tail {s : State} {st : Stream} (h : s.freeTail st ≠ []) :
    (s.ordinaryRelease st).ringState st = { s.ringState st with
      dir := (s.ringState st).dir.dropWhile s.releasable
      allocated := (s.ringState st).allocated - ((s.freeTail st).map DirEntry.extent).sum
      tail := ((((s.ringState st).dir.dropWhile s.releasable).head?.map DirEntry.offset).getD (s.ringState st).head)
      counters := { (s.ringState st).counters with
        ordinaryReleases := addSat (s.ringState st).counters.ordinaryReleases (s.freeTail st).length } } := by
  have hsome : ((s.ringState st).dir.takeWhile s.releasable).isEmpty = false := by
    simpa [State.freeTail] using h
  simp only [State.ordinaryRelease, hsome, Bool.false_eq_true, if_false, State.ringState_setRingState,
    RingState.dropTail, State.freeTail]
  cases (s.ringState st).dir.dropWhile s.releasable <;> rfl

theorem State.freeTail_append (s : State) (st : Stream) :
    s.freeTail st ++ (s.ringState st).dir.dropWhile s.releasable = (s.ringState st).dir :=
  List.takeWhile_append_dropWhile

theorem State.ordinaryRelease_dir (s : State) (st : Stream) :
    ((s.ordinaryRelease st).ringState st).dir = (s.ringState st).dir.dropWhile s.releasable := by
  by_cases h : s.freeTail st = []
  · have hall := s.freeTail_append st
    rw [h, List.nil_append] at hall
    rw [State.ordinaryRelease_of_no_tail h, hall]
  · rw [State.ordinaryRelease_of_tail h]

theorem State.ordinaryRelease_allocated (s : State) (st : Stream) :
    ((s.ordinaryRelease st).ringState st).allocated =
      (s.ringState st).allocated - ((s.freeTail st).map DirEntry.extent).sum := by
  by_cases h : s.freeTail st = []
  · simp [State.ordinaryRelease_of_no_tail h, h]
  · rw [State.ordinaryRelease_of_tail h]

/-- What a ring keeps when its free tail leaves. -/
theorem State.ordinaryRelease_ring (s : State) (st : Stream) :
    ((s.ordinaryRelease st).ringState st).head = (s.ringState st).head ∧
    ((s.ordinaryRelease st).ringState st).reservation = (s.ringState st).reservation ∧
    ((s.ordinaryRelease st).ringState st).running = (s.ringState st).running ∧
    ((s.ordinaryRelease st).ringState st).rowOffsets = (s.ringState st).rowOffsets ∧
    ((s.ordinaryRelease st).ringState st).counters.completed = (s.ringState st).counters.completed := by
  by_cases h : s.freeTail st = []
  · rw [State.ordinaryRelease_of_no_tail h]
    exact ⟨rfl, rfl, rfl, rfl, rfl⟩
  · rw [State.ordinaryRelease_of_tail h]
    exact ⟨rfl, rfl, rfl, rfl, rfl⟩

/-- The release stops at the first entry that fails a test. -/
theorem State.ordinaryRelease_head {s : State} {st : Stream} {e : DirEntry}
    (h : ((s.ordinaryRelease st).ringState st).dir.head? = some e) : s.releasable e = false := by
  have hfirst := List.head?_dropWhile_not s.releasable (s.ringState st).dir
  rw [State.ordinaryRelease_dir] at h
  simpa [h] using hfirst

/-- Settles O36: what has left is the longest free tail. -/
theorem ordinaryReleaseTakesTheFreeTail : Obligations.OrdinaryReleaseTakesTheFreeTail := by
  intro s st
  obtain ⟨hhead, -⟩ := s.ordinaryRelease_ring st
  refine ⟨s.freeTail st, ?directory, fun e he => (s.releasable_iff e).1 (State.releasable_of_freeTail he), ?stops,
    s.ordinaryRelease_allocated st, hhead, fun hgone => ?tail, by simp, by simp, by simp⟩
  case directory => rw [State.ordinaryRelease_dir, State.freeTail_append]
  case stops =>
    intro e he
    have hkept := State.ordinaryRelease_head he
    by_contra hfree
    simp only [not_or, Bool.not_eq_true] at hfree
    exact absurd ((s.releasable_iff e).2 hfree) (by simp [hkept])
  case tail => rw [State.ordinaryRelease_of_tail hgone]

end Sys2Proof.Machine
end

section
/-! What the handing of a completed unit leaves of a ring (R112 to R114, R144 to R151, R160 to R168): an append to a
lane's list may write the fault-reported flags of entries and their need for Lane B, and nothing else of a ring. -/

namespace Sys2Proof.Machine

/-- An entry but for its fault-reported flags and its need for Lane B. -/
def DirEntry.core (e : DirEntry) : DirEntry := { e with faultA := false, faultB := false, needB := false }

/-- A ring but for the fault-reported flags of its entries and their need for Lane B. -/
def RingState.core (r : RingState) : RingState := { r with dir := r.dir.map DirEntry.core }

theorem RingState.core_of_unfaulted {r q : RingState} (h : r.unfaulted = q.unfaulted) : r.core = q.core := by
  have hunfaulted : ∀ x : RingState, x.unfaulted.core = x.core := fun x => by
    simp only [RingState.core, RingState.unfaulted, List.map_map]
    rfl
  rw [← hunfaulted r, h, hunfaulted]

theorem DirEntry.clearNeed_core (e : DirEntry) : (e.clearNeed .b).core = e.core := rfl

theorem modifyEntry_core {f : DirEntry → DirEntry} (hf : ∀ e, (f e).core = e.core) (source : Nat)
    (dir : List DirEntry) : (modifyEntry source f dir).map DirEntry.core = dir.map DirEntry.core := by
  simp only [modifyEntry, List.map_map]
  refine List.map_congr_left fun e _ => ?_
  simp only [Function.comp]
  split
  · exact hf e
  · rfl

theorem State.editEntry_core {f : DirEntry → DirEntry} (hf : ∀ e, (f e).core = e.core) (s : State) (st : Stream)
    (source : Nat) (st' : Stream) : ((s.editEntry st source f).ringState st').core = (s.ringState st').core := by
  by_cases h : st' = st
  · subst h
    simp [State.editEntry, RingState.core, modifyEntry_core hf]
  · rw [State.editEntry, State.ringState_setRingState_ne s h]

/-! ## The lanes' lists -/

theorem State.choose_core (s : State) (l : LaneId) (st : Stream) :
    ((s.choose l).ringState st).core = (s.ringState st).core :=
  RingState.core_of_unfaulted (s.choose_unfaulted l st)

theorem State.clearNeeds_core (s : State) (items : List Item) (st : Stream) :
    ((s.clearNeeds .b items).ringState st).core = (s.ringState st).core := by
  induction items generalizing s with
  | nil => rfl
  | cons i rest ih =>
    cases i with
    | unit st' source => exact (ih _).trans (s.editEntry_core DirEntry.clearNeed_core ..)
    | marker m => exact ih s

theorem State.backlogTest_core (s : State) (st : Stream) :
    (s.backlogTest.ringState st).core = (s.ringState st).core := by
  unfold State.backlogTest
  dsimp only
  split
  · rfl
  · refine (RingState.core_of_unfaulted (State.chooseIfHeadChanged_unfaulted ..)).trans ?_
    rw [← s.clearNeeds_core _ st]
    exact congrArg _ (State.ringState_congr rfl st)

theorem State.pushItem_core (s : State) (l : LaneId) (i : Item) (st : Stream) :
    ((s.pushItem l i).ringState st).core = (s.ringState st).core := by
  unfold State.pushItem
  dsimp only
  split
  · rw [State.choose_core, State.ringState_setLane]
  · rw [State.ringState_setLane]

theorem State.pushUnit_core (s : State) (l : LaneId) (st : Stream) (source : Nat) (st' : Stream) :
    ((s.pushUnit l st source).ringState st').core = (s.ringState st').core := by
  cases l with
  | a => exact s.pushItem_core ..
  | b =>
    simp only [State.pushUnit]
    split
    · rw [State.backlogTest_core, State.pushItem_core, State.ringState_setLane]
    · exact s.clearNeeds_core ..

theorem State.pushMarker_core (s : State) (l : LaneId) (m : Marker) (st : Stream) :
    ((s.pushMarker l m).ringState st).core = (s.ringState st).core := by
  unfold State.pushMarker
  split
  · split
    · rw [State.pushItem_core, State.ringState_setLane]
    · rw [State.ringState_setLane]
  · split
    · rw [State.ringState_setLane]
    · rw [State.pushItem_core, State.ringState_setLane]

theorem State.push_core (s : State) (l : LaneId) (i : Item) (st : Stream) :
    ((s.push l i).ringState st).core = (s.ringState st).core := by
  cases i with
  | unit st' source => exact s.pushUnit_core ..
  | marker m => exact s.pushMarker_core ..

theorem State.pushAll_core (s : State) (l : LaneId) (items : List Item) (st : Stream) :
    ((s.pushAll l items).ringState st).core = (s.ringState st).core := by
  induction items generalizing s with
  | nil => rfl
  | cons i rest ih => exact (ih _).trans (s.push_core ..)

/-! ## The closing of takes (R147 to R151) -/

theorem State.closeOnLane_core (s : State) (t : TakeRec) (l : LaneId) (st : Stream) :
    ((s.closeOnLane t l).ringState st).core = (s.ringState st).core := by
  have hhold : ∀ u : State, (u.setHold l []).fsc = u.fsc := fun u => by simp
  unfold State.closeOnLane
  split
  · rw [State.releaseHold, State.pushAll_core, State.ringState_congr (hhold _) st, State.pushMarker_core]
  · rfl

theorem State.closeTake_core (s : State) (t : TakeRec) (st : Stream) :
    ((s.closeTake t).ringState st).core = (s.ringState st).core := by
  have hpromote : ∀ u : State, u.promote.fsc = u.fsc := fun u => by simp
  unfold State.closeTake
  dsimp only
  rw [State.ringState_congr (hpromote _) st, State.closeOnLane_core, State.closeOnLane_core]
  exact congrArg _ (State.ringState_congr rfl st)

theorem State.closeIfDone_core (s : State) (st : Stream) :
    (s.closeIfDone.ringState st).core = (s.ringState st).core := by
  unfold State.closeIfDone
  split
  · rfl
  · split
    · rfl
    · exact s.closeTake_core ..

theorem State.testClosing_core (s : State) (st : Stream) :
    (s.testClosing.ringState st).core = (s.ringState st).core :=
  (s.closeIfDone.closeIfDone_core st).trans (s.closeIfDone_core st)

/-! ## The handing of a unit and the end of its picture's stream (R144, R145, R150) -/

theorem State.handItem_core (s : State) (l : LaneId) (take : Option Nat) (i : Item) (st : Stream) :
    ((s.handItem l take i).ringState st).core = (s.ringState st).core := by
  have hheld : ∀ items, ((s.setHold l items).ringState st).core = (s.ringState st).core := fun items =>
    congrArg _ (State.ringState_congr (by simp) st)
  unfold State.handItem
  split
  · exact s.push_core ..
  · split
    · exact s.push_core ..
    · exact hheld _

theorem State.handUnit_core (s : State) (st : Stream) (source : Nat) (toA toB : Bool) (take : Option Nat)
    (st' : Stream) : ((s.handUnit st source toA toB take).ringState st').core = (s.ringState st').core := by
  have hlane : ∀ (u : State) (handed : Bool) (l : LaneId),
      ((if handed then u.handItem l take (.unit st source) else u).ringState st').core = (u.ringState st').core :=
    fun u handed l => by
      cases handed with
      | false => rfl
      | true => exact u.handItem_core ..
  have hlanes := (hlane (if toA then s.handItem .a take (.unit st source) else s) toB .b).trans (hlane s toA .a)
  unfold State.handUnit
  dsimp only
  split
  · exact hlanes
  · rw [State.testClosing_core]
    exact (congrArg _ (State.ringState_congr (by simp) st')).trans hlanes

theorem State.handWaiting_core (s : State) (source : Nat) (st : Stream) :
    ((s.handWaiting source).ringState st).core = (s.ringState st).core := by
  unfold State.handWaiting
  split
  · rfl
  · exact (State.handUnit_core ..).trans (congrArg _ (State.ringState_congr rfl st))

theorem State.unitCompleted_core (s : State) (e : DirEntry) (st st' : Stream) :
    ((s.unitCompleted e st).ringState st').core = (s.ringState st').core := by
  unfold State.unitCompleted
  split
  · split
    · exact (State.handWaiting_core ..).trans (State.handUnit_core ..)
    · rfl
  · split
    · split
      · exact State.handUnit_core ..
      · exact congrArg _ (State.ringState_congr rfl st')
    · exact State.handUnit_core ..

theorem State.finish_core (s : State) (st : Stream) (source : Nat) (x : StreamState) (st' : Stream) :
    ((s.finish st source x).ringState st').core = (s.ringState st').core := by
  unfold State.finish
  split
  · rfl
  · dsimp only
    split
    · exact congrArg _ (State.ringState_congr rfl st')
    · rw [State.testClosing_core]
      split <;> exact congrArg _ (State.ringState_congr rfl st')

/-- Every record of a source number bears the state with which a stream has finished with it. -/
theorem State.stateOf_finish {s : State} {st : Stream} {source : Nat} {x : StreamState} {r : PicRecord}
    (hr : r ∈ (s.finish st source x).ti.table) (hsource : r.source = source) : r.stateOf st = some x := by
  have hedited : r ∈ (s.editRecord source fun q => q.withState st x).ti.table → r.stateOf st = some x := by
    intro hmem
    obtain ⟨q, -, rfl⟩ := List.mem_map.1 hmem
    by_cases hq : q.source = source
    · simp only [hq, beq_self_eq_true, if_true]
      cases st <;> rfl
    · simp [hq] at hsource
  have hfinished : ∀ u : State, u.ti = (s.editRecord source fun q => q.withState st x).ti →
      r ∈ (u.removeFinished source).ti.table → r.stateOf st = some x := fun u hu hmem => by
    obtain ⟨hmem, -⟩ := List.mem_filter.1 hmem
    exact hedited (hu ▸ hmem)
  unfold State.finish at hr
  split at hr
  · next hnone =>
    have hother := List.find?_eq_none.1 hnone r hr
    simp [hsource] at hother
  · dsimp only at hr
    split at hr
    · exact hfinished _ rfl hr
    · obtain ⟨hti, -⟩ := State.testClosing_frame (State.removeFinished
        (if st = .p ∧ x.noProxy = true then (s.editRecord source fun q => q.withState st x).addGap _ else
          s.editRecord source fun q => q.withState st x) source)
      rw [hti] at hr
      refine hfinished _ ?_ hr
      split <;> simp

end Sys2Proof.Machine
end

section
/-! The front of a completed unit (R102, R104, R196): where its header and its row offset table stand in the ring, and
the fields of the header (Table 11-7). -/

namespace Sys2Proof.Machine

/-! ## Byte strings laid out as numbers -/

/-- The bytes of a sequence of numbers, each with its width in bytes. -/
def layoutBytes (fields : List (Nat × Nat)) : List Byte := fields.flatMap fun x => be x.1 x.2

theorem layoutBytes_length (fields : List (Nat × Nat)) : (layoutBytes fields).length = (fields.map Prod.fst).sum := by
  simp [layoutBytes, List.length_flatMap]

theorem fieldAt_layoutBytes {fields : List (Nat × Nat)} {k n v : Nat} (h : fields[k]? = some (n, v))
    (hv : v < 256 ^ n) : fieldAt (layoutBytes fields) ((fields.map Prod.fst).take k).sum n = v := by
  obtain ⟨hk, hfield⟩ := List.getElem?_eq_some_iff.1 h
  have hsplit : fields = fields.take k ++ (n, v) :: fields.drop (k + 1) := by
    rw [← hfield, List.getElem_cons_drop hk, List.take_append_drop]
  have hbytes : layoutBytes fields =
      layoutBytes (fields.take k) ++ (be n v ++ layoutBytes (fields.drop (k + 1))) := by
    conv_lhs => rw [hsplit]
    simp [layoutBytes]
  rw [hbytes, ← List.map_take]
  exact fieldAt_be (layoutBytes_length _) hv _

/-! ## The header (Table 11-7) -/

/-- The numbers of the stored unit header, each with its width. -/
def Completion.headerFields (c : Completion) (st : Stream) : List (Nat × Nat) :=
  [(1, st.byte),
    (1, unitFlags c.record.openLost c.record.truncated c.record.concealed c.record.stampRepeat
      (decide (1 ≤ c.flats)) false),
    (6, c.source), (6, 0), (2, c.profile.width), (2, c.profile.height), (1, c.profile.tilesAcross),
    (1, c.profile.padLines), (2, c.profile.rows), (1, c.startRung), (1, c.endRung), (4, c.coded), (2, c.flats),
    (2, c.raws), (2, c.conceals), (2, c.gap), (26, 0), (2, 0)]

/-- The widths of those numbers. -/
def headerWidths : List Nat := [1, 1, 6, 6, 2, 2, 1, 1, 2, 1, 1, 4, 2, 2, 2, 2, 26, 2]

theorem Completion.headerFields_widths (c : Completion) (st : Stream) :
    (c.headerFields st).map Prod.fst = headerWidths := rfl

theorem Completion.header_eq (c : Completion) (st : Stream) : c.header st = layoutBytes (c.headerFields st) := by
  simp [Completion.header, layoutBytes, Completion.headerFields]

theorem Completion.header_length (c : Completion) (st : Stream) : (c.header st).length = 64 := by
  rw [Completion.header_eq, layoutBytes_length, Completion.headerFields_widths]
  decide

/-- The `k`-th number of the header, read where it stands. -/
theorem Completion.fieldAt_header {c : Completion} {st : Stream} (k : Nat) {off n v bound : Nat}
    (h : (c.headerFields st)[k]? = some (n, v)) (hoff : (headerWidths.take k).sum = off) (hbound : 256 ^ n = bound)
    (hv : v < bound) : fieldAt (c.header st) off n = v := by
  subst hoff hbound
  rw [Completion.header_eq, ← c.headerFields_widths st]
  exact fieldAt_layoutBytes h hv

theorem unitFlags_eq (openLost truncated concealed stampRepeat flat : Bool) :
    unitFlags openLost truncated concealed stampRepeat flat false =
      (if openLost then 1 else 0) + (if truncated then 2 else 0) + (if concealed then 4 else 0) +
        (if stampRepeat then 8 else 0) + (if flat then 16 else 0) := by
  revert openLost truncated concealed stampRepeat flat
  decide

theorem unitFlags_lt (openLost truncated concealed stampRepeat flat : Bool) :
    unitFlags openLost truncated concealed stampRepeat flat false < 256 := by
  revert openLost truncated concealed stampRepeat flat
  decide

theorem Completion.header_stream (c : Completion) (st : Stream) : fieldAt (c.header st) 0 1 = st.byte :=
  Completion.fieldAt_header 0 rfl (by decide) rfl (by cases st <;> decide)

theorem Completion.header_flags (c : Completion) (st : Stream) : fieldAt (c.header st) 1 1 =
    (if c.record.openLost then 1 else 0) + (if c.record.truncated then 2 else 0) +
      (if c.record.concealed then 4 else 0) + (if c.record.stampRepeat then 8 else 0) +
      (if 1 ≤ c.flats then 16 else 0) := by
  have hflags := Completion.fieldAt_header (c := c) (st := st) 1 (off := 1) rfl (by decide) rfl (unitFlags_lt ..)
  rw [hflags, unitFlags_eq]
  simp only [decide_eq_true_eq]

/-! ## The front in the ring (R102, R104) -/

theorem rowOffsetTable_length (offsets : List Nat) : (offsets.flatMap (be 4)).length = 4 * offsets.length := by
  simp [List.length_flatMap, Nat.mul_comm]

theorem State.writeFront_dram (s : State) (st : Stream) (c : Completion) (start : Nat) (g : Ring) :
    (s.writeFront st c start g).dram = Mem.writeRing g
      (Mem.writeRing g s.dram (start * 64 + 64) ((s.ringState st).rowOffsets.flatMap (be 4))) (start * 64)
      (c.header st) := by
  simp only [State.writeFront]

section
variable {s : State} {st : Stream} {c : Completion} {start : Nat} {g : Ring}

theorem State.read_writeFront_header (hwf : Mem.wf s.dram = true) (hstore : g.inStore)
    (hlen : 64 + 4 * (s.ringState st).rowOffsets.length ≤ g.bytes) {i : Nat} (hi : i < 64) :
    Mem.read (s.writeFront st c start g).dram (g.address (start * 64 + i)) = (c.header st).getD i 0 := by
  have hheader := c.header_length st
  rw [State.writeFront_dram]
  exact Mem.read_writeRing hstore (Mem.wf_writeRing g hwf _ _) (by omega) (by omega)

/-- The header, written behind the table, reaches none of the table's bytes. -/
theorem State.read_writeFront_table (hwf : Mem.wf s.dram = true) (hstore : g.inStore)
    (hlen : 64 + 4 * (s.ringState st).rowOffsets.length ≤ g.bytes) {i : Nat}
    (hi : i < 4 * (s.ringState st).rowOffsets.length) :
    Mem.read (s.writeFront st c start g).dram (g.address (start * 64 + 64 + i)) =
      ((s.ringState st).rowOffsets.flatMap (be 4)).getD i 0 := by
  have htable := rowOffsetTable_length (s.ringState st).rowOffsets
  have hapart : ∀ j, j < (c.header st).length →
      g.address (start * 64 + j) ≠ g.address (start * 64 + 64 + i) := fun j hj => by
    rw [Completion.header_length] at hj
    rw [Nat.add_assoc (start * 64) 64 i]
    exact (Ring.address_ne_of_lt hlen (by omega) (by omega)).symm
  rw [State.writeFront_dram, Mem.read_writeRing_other (Mem.wf_writeRing g hwf _ _) hapart]
  exact Mem.read_writeRing hstore hwf (by omega) (by omega)

theorem State.read_writeFront_other (hwf : Mem.wf s.dram = true) {a : Nat}
    (ha : ∀ i, i < 64 + 4 * (s.ringState st).rowOffsets.length → g.address (start * 64 + i) ≠ a) :
    Mem.read (s.writeFront st c start g).dram a = Mem.read s.dram a := by
  have hheader : ∀ j, j < (c.header st).length → g.address (start * 64 + j) ≠ a := fun j hj => by
    rw [Completion.header_length] at hj
    exact ha j (by omega)
  have htable : ∀ j, j < ((s.ringState st).rowOffsets.flatMap (be 4)).length →
      g.address (start * 64 + 64 + j) ≠ a := fun j hj => by
    rw [rowOffsetTable_length] at hj
    rw [Nat.add_assoc]
    exact ha (64 + j) (by omega)
  rw [State.writeFront_dram, Mem.read_writeRing_other (Mem.wf_writeRing g hwf _ _) hheader,
    Mem.read_writeRing_other hwf htable]

end

end Sys2Proof.Machine
end

section
/-! The completion of a unit (R104 to R109, R143 to R145): its entry and its needs, the handing, and the ring behind
it. -/

namespace Sys2Proof.Machine

/-! ## Needs and handing (R143, R144) -/

theorem State.needs_of_no_take (s : State) : s.needs .f none = (false, false) ∧
    s.needs .p none = (false, decide (s.prs.lanes.feed = .always)) := ⟨rfl, rfl⟩

theorem State.needs_of_live {s : State} {n : Nat} {t : TakeRec} (h : s.tkc.live n = some t) :
    s.needs .f (some n) = (t.aF, false) ∧
      s.needs .p (some n) = (t.aP, t.bP && decide (s.prs.lanes.feed ≠ .off)) := by
  simp [State.needs, h, bne, beq_eq_decide]

theorem State.masterStored_eq_false {s : State} {source : Nat} {r : PicRecord} (hr : s.record source = some r)
    (hstate : r.fState ≠ .stored) : s.masterStored source = false := by
  simp [State.masterStored, hr, hstate]

theorem State.masterStored_eq_true {s : State} {source : Nat}
    (h : ∀ r, s.record source = some r → r.fState = .stored) : s.masterStored source = true := by
  unfold State.masterStored
  split
  · next r hr => simp [h r hr]
  · rfl

section
variable {s : State} {e : DirEntry} {n : Nat} {t : TakeRec}

theorem State.unitCompleted_master (htake : e.take = some n) (hlive : s.tkc.live n = some t) :
    s.unitCompleted e .f = (s.handUnit .f e.source e.needA e.needB (some t.number)).handWaiting e.source := by
  simp [State.unitCompleted, htake, hlive]

theorem State.unitCompleted_proxy_waits (htake : e.take = some n) (hlive : s.tkc.live n = some t)
    (hmaster : s.masterStored e.source = false) : s.unitCompleted e .p = { s with tkc := { s.tkc with
      waiting := s.tkc.waiting ++ [⟨e.source, t.number, e.needA, e.needB⟩] } } := by
  simp [State.unitCompleted, htake, hlive, hmaster]

theorem State.unitCompleted_proxy_handed (htake : e.take = some n) (hlive : s.tkc.live n = some t)
    (hmaster : s.masterStored e.source = true) :
    s.unitCompleted e .p = s.handUnit .p e.source e.needA e.needB (some t.number) := by
  simp [State.unitCompleted, htake, hlive, hmaster]

theorem State.unitCompleted_of_no_take (htake : e.take = none) : s.unitCompleted e .f = s ∧
    s.unitCompleted e .p = s.handUnit .p e.source e.needA e.needB none := by
  simp [State.unitCompleted, htake]

end

theorem State.handWaiting_of_none {s : State} {source : Nat} (h : ∀ w ∈ s.tkc.waiting, w.source ≠ source) :
    s.handWaiting source = s := by
  have hnone : (s.tkc.waiting.find? fun w => w.source == source) = none :=
    List.find?_eq_none.2 fun w hw => by simpa using h w hw
  simp only [State.handWaiting, hnone]

theorem State.handWaiting_of_some {s : State} {source : Nat} {w : Waiting}
    (h : (s.tkc.waiting.find? fun w => decide (w.source = source)) = some w) :
    s.handWaiting source =
      State.handUnit { s with tkc := { s.tkc with
        waiting := s.tkc.waiting.filter fun x => decide (x.source ≠ source) } }
        .p source w.toA w.toB (some w.take) := by
  have hsome : (s.tkc.waiting.find? fun w => w.source == source) = some w := by simpa [beq_eq_decide] using h
  have hothers : (fun x : Waiting => x.source != source) = fun x => decide (x.source ≠ source) := by
    funext x
    simp [bne, beq_eq_decide]
  simp only [State.handWaiting, hsome, hothers]

/-! ## The entry and the shrink (R105, R106) -/

theorem DirEntry.source_core (e : DirEntry) : e.core.source = e.source := rfl

/-- A ring with one more completed unit counted (R115). -/
def RingState.countCompleted (r : RingState) : RingState :=
  { r with counters := { r.counters with completed := bump r.counters.completed } }

/-- The state with the front of a unit written and its entry in the directory. -/
def State.unitEntered (s : State) (st : Stream) (c : Completion) (v : Reservation) (g : Ring) : State :=
  (s.writeFront st c v.start g).setRingState st
    ((s.ringState st).complete (c.entry v.start (s.needs st c.record.take)) g.granules)

/-- The state with a unit's entry handed and its stream's state STORED. -/
def State.unitStored (s : State) (st : Stream) (c : Completion) (v : Reservation) (g : Ring) : State :=
  ((s.unitEntered st c v g).unitCompleted (c.entry v.start (s.needs st c.record.take)) st).finish st c.source .stored

/-- The state with a completed unit counted, before the ring's ordinary release. -/
def State.unitCounted (s : State) (st : Stream) (c : Completion) (v : Reservation) (g : Ring) : State :=
  (s.unitStored st c v g).setRingState st ((s.unitStored st c v g).ringState st).countCompleted

section
variable {s : State} {st : Stream} {v : Reservation} {g : Ring}

theorem State.completeUnit_eq (hv : (s.ringState st).reservation = some v) (hg : (s.tables st).ring = some g)
    (c : Completion) : s.completeUnit st c = (s.unitCounted st c v g).ordinaryRelease st := by
  have hring : (s.writeFront st c v.start g).ringState st = s.ringState st := State.ringState_congr (by simp) st
  simp only [State.completeUnit, hv, hg, hring, State.unitCounted, State.unitStored, State.unitEntered,
    RingState.countCompleted]

/-- The handing and the end of the stream leave the ring's core as the shrink made it. -/
theorem State.unitStored_core (s : State) (st : Stream) (c : Completion) (v : Reservation) (g : Ring) :
    ((s.unitStored st c v g).ringState st).core =
      ((s.ringState st).complete (c.entry v.start (s.needs st c.record.take)) g.granules).core := by
  rw [State.unitStored, State.finish_core, State.unitCompleted_core, State.unitEntered,
    State.ringState_setRingState]

/-- The directory before the release: the entries as they were, and that of the unit, but for what lanes write. -/
theorem State.unitCounted_dir (s : State) (st : Stream) (c : Completion) (v : Reservation) (g : Ring) :
    ((s.unitCounted st c v g).ringState st).dir.map DirEntry.core =
      (s.ringState st).dir.map DirEntry.core ++ [(c.entry v.start (s.needs st c.record.take)).core] := by
  have hdir := congrArg RingState.dir (s.unitStored_core st c v g)
  rw [State.unitCounted, State.ringState_setRingState]
  simpa [RingState.countCompleted, RingState.core, RingState.complete] using hdir

theorem State.unitCounted_sources (s : State) (st : Stream) (c : Completion) (v : Reservation) (g : Ring) :
    ((s.unitCounted st c v g).ringState st).dir.map DirEntry.source =
      (s.ringState st).dir.map DirEntry.source ++ [c.source] := by
  have hdir := congrArg (List.map DirEntry.source) (s.unitCounted_dir st c v g)
  simpa [Function.comp_def, DirEntry.source_core, Completion.entry] using hdir

/-- The entry of the unit is the directory's last, but for what lanes write of it. -/
theorem State.unitCounted_last (s : State) (st : Stream) (c : Completion) (v : Reservation) (g : Ring) :
    ∃ front e, ((s.unitCounted st c v g).ringState st).dir = front ++ [e] ∧
      e.core = (c.entry v.start (s.needs st c.record.take)).core := by
  obtain ⟨front, last, hdir, -, hlast⟩ := List.map_eq_append_iff.1 (s.unitCounted_dir st c v g)
  obtain ⟨e, hlast', he⟩ := List.map_eq_singleton_iff.1 hlast
  exact ⟨front, e, by rw [hdir, hlast'], he⟩

theorem State.unitCounted_ring (s : State) (st : Stream) (c : Completion) (v : Reservation) (g : Ring) :
    ((s.unitCounted st c v g).ringState st).noDir =
      ((s.ringState st).complete (c.entry v.start (s.needs st c.record.take)) g.granules).countCompleted.noDir := by
  have hring := congrArg (fun r : RingState => r.countCompleted.noDir) (s.unitStored_core st c v g)
  rw [State.unitCounted, State.ringState_setRingState]
  exact hring

/-- The ring beside its directory, behind a completion (R105, R115). -/
theorem State.completeUnit_ring (hv : (s.ringState st).reservation = some v) (hg : (s.tables st).ring = some g)
    (c : Completion) :
    ((s.completeUnit st c).ringState st).reservation = none ∧ ((s.completeUnit st c).ringState st).running = 0 ∧
    ((s.completeUnit st c).ringState st).rowOffsets = [] ∧
    ((s.completeUnit st c).ringState st).head = (v.start + (c.length + 63) / 64) % g.granules ∧
    ((s.completeUnit st c).ringState st).counters.completed = bump (s.ringState st).counters.completed := by
  obtain ⟨hhead, hreservation, hrunning, hoffsets, hcompleted⟩ := (s.unitCounted st c v g).ordinaryRelease_ring st
  have hring := s.unitCounted_ring st c v g
  rw [State.completeUnit_eq hv hg, hhead, hreservation, hrunning, hoffsets, hcompleted]
  exact ⟨congrArg RingState.reservation hring, congrArg RingState.running hring, congrArg RingState.rowOffsets hring,
    congrArg RingState.head hring, congrArg (fun r => r.counters.completed) hring⟩

/-- The directory behind a completion: the free tail has left it. -/
theorem State.completeUnit_sources (hv : (s.ringState st).reservation = some v) (hg : (s.tables st).ring = some g)
    (c : Completion) : ∃ gone, (s.ringState st).dir.map DirEntry.source ++ [c.source] =
      gone ++ ((s.completeUnit st c).ringState st).dir.map DirEntry.source := by
  refine ⟨((s.unitCounted st c v g).freeTail st).map DirEntry.source, ?_⟩
  rw [State.completeUnit_eq hv hg, State.ordinaryRelease_dir, ← List.map_append, State.freeTail_append,
    State.unitCounted_sources]

theorem getLast?_dropWhile_append_singleton {α : Type} {p : α → Bool} {x : α} (hx : p x = false) (l : List α) :
    ((l ++ [x]).dropWhile p).getLast? = some x := by
  rw [List.dropWhile_append]
  split
  · simp [hx]
  · simp

/-- A unit that Lane A needs stays the directory's last. -/
theorem State.completeUnit_last (hv : (s.ringState st).reservation = some v) (hg : (s.tables st).ring = some g)
    {c : Completion} (hneed : (s.needs st c.record.take).1 = true) :
    ∃ e, ((s.completeUnit st c).ringState st).dir.getLast? = some e ∧
      e.core = (c.entry v.start (s.needs st c.record.take)).core := by
  obtain ⟨front, e, hdir, he⟩ := s.unitCounted_last st c v g
  have hneedA : e.needA = true := (congrArg DirEntry.needA he).trans hneed
  have hstays : (s.unitCounted st c v g).releasable e = false := by simp [State.releasable, hneedA]
  refine ⟨e, ?_, he⟩
  rw [State.completeUnit_eq hv hg, State.ordinaryRelease_dir, hdir,
    getLast?_dropWhile_append_singleton hstays]

theorem State.completeUnit_dram (hv : (s.ringState st).reservation = some v) (hg : (s.tables st).ring = some g)
    (c : Completion) : (s.completeUnit st c).dram = (s.writeFront st c v.start g).dram := by
  rw [State.completeUnit_eq hv hg]
  simp [State.unitCounted, State.unitStored, State.unitEntered]

theorem State.completeUnit_stateOf (hv : (s.ringState st).reservation = some v) (hg : (s.tables st).ring = some g)
    {c : Completion} {r : PicRecord} (hr : r ∈ (s.completeUnit st c).ti.table) (hsource : r.source = c.source) :
    r.stateOf st = some .stored := by
  have hti : (s.completeUnit st c).ti = (s.unitStored st c v g).ti := by
    rw [State.completeUnit_eq hv hg]
    simp [State.unitCounted]
  rw [hti] at hr
  exact State.stateOf_finish hr hsource

end

/-- Settles O34: the front, the header, the entry and the shrink, the completion as a whole, the needs, the handing by
stream and take, the waiting unit, and the count of a handing. -/
theorem completedUnitHasItsFrontAndEntry : Obligations.CompletedUnitHasItsFrontAndEntry := by
  refine ⟨?front, ?header, ?entry, ?completion, ?needs, ?handing, ?waiting, ?counted⟩
  case front =>
    exact fun s st c start g hwf hstore hlen => ⟨fun i hi => State.read_writeFront_header hwf hstore hlen hi,
      fun i hi => State.read_writeFront_table hwf hstore hlen hi, fun a ha => State.read_writeFront_other hwf ha⟩
  case header =>
    intro c st
    have field := @Completion.fieldAt_header c st
    refine ⟨c.header_length st, ?stream, c.header_flags st,
      field 2 rfl (by decide) (by decide), field 3 rfl (by decide) rfl (by decide), field 4 rfl (by decide) (by decide),
      field 5 rfl (by decide) (by decide), field 6 rfl (by decide) (by decide), field 7 rfl (by decide) (by decide),
      field 8 rfl (by decide) (by decide), field 9 rfl (by decide) (by decide), field 10 rfl (by decide) (by decide),
      field 11 rfl (by decide) (by decide), field 12 rfl (by decide) (by decide), field 13 rfl (by decide) (by decide),
      field 14 rfl (by decide) (by decide), field 15 rfl (by decide) (by decide),
      field 16 rfl (by decide) rfl (by decide), field 17 rfl (by decide) rfl (by decide)⟩
    case stream => cases st <;> exact c.header_stream _
  case entry =>
    rintro r c offset granules needs e rfl
    exact ⟨rfl, rfl, rfl, rfl, rfl, rfl, rfl, rfl, rfl, rfl, decide_eq_true_iff, rfl, rfl, rfl, rfl, rfl⟩
  case completion =>
    rintro s t st c v g hv hg rfl
    obtain ⟨hreservation, hrunning, hoffsets, hhead, hcompleted⟩ := State.completeUnit_ring hv hg c
    refine ⟨State.completeUnit_dram hv hg c, hreservation, hrunning, hoffsets, hhead, hcompleted,
      State.completeUnit_sources hv hg c, fun hneed => ?_, fun r hr => State.completeUnit_stateOf hv hg hr⟩
    obtain ⟨e, hlast, he⟩ := State.completeUnit_last hv hg hneed
    exact ⟨e, hlast, congrArg DirEntry.source he, congrArg DirEntry.offset he, congrArg DirEntry.length he,
      congrArg DirEntry.take he, (congrArg DirEntry.needA he).trans hneed⟩
  case needs =>
    intro s
    obtain ⟨hmaster, hproxy⟩ := s.needs_of_no_take
    exact ⟨hmaster, hproxy, fun n t hlive => State.needs_of_live hlive⟩
  case handing =>
    refine fun s e => ⟨fun n t htake hlive => ⟨State.unitCompleted_master htake hlive, ?_, fun hstored => ?_⟩,
      State.unitCompleted_of_no_take⟩
    · rintro ⟨r, hr, hstate⟩
      exact State.unitCompleted_proxy_waits htake hlive (State.masterStored_eq_false hr hstate)
    · exact State.unitCompleted_proxy_handed htake hlive (State.masterStored_eq_true hstored)
  case waiting => exact fun s source => ⟨State.handWaiting_of_none, fun w => State.handWaiting_of_some⟩
  case counted => exact fun t source e => ⟨rfl, rfl⟩

end Sys2Proof.Machine
end

section
/-! Timecode labels: which are valid, and that the advance, the skip of a jam and the label of midnight are (R118,
R119, R126); then the labels the TCU holds, valid at every step (R118 to R130). -/

namespace Sys2Proof.Machine

/-! ## Labels (R118, R119, R126) -/

theorem Label.inRange_iff (l : Label) (base : Nat) :
    l.inRange base = true ↔ l.hours < 24 ∧ l.minutes < 60 ∧ l.seconds < 60 ∧ l.frames < base := by
  simp [Label.inRange, and_assoc]

theorem Label.skipped_iff (l : Label) (base : Nat) (drop : Bool) :
    l.skipped base drop = true ↔
      drop = true ∧ l.seconds = 0 ∧ l.minutes % 10 ≠ 0 ∧ l.frames < dropFloor base := by
  simp [Label.skipped, and_assoc]

theorem Label.valid_iff (l : Label) (base : Nat) (drop : Bool) :
    l.valid base drop = true ↔ l.inRange base = true ∧ ¬ l.skipped base drop = true := by
  simp [Label.valid]

/-- A base and a drop setting under which labels can be held: the base has frames, and with drop on it has more than
the frames passed over (R118, R120). -/
def holdsLabels (base : Nat) (drop : Bool) : Prop := 0 < base ∧ (drop = true → dropFloor base < base)

theorem Tcu.settingsValid.holdsLabels {t : Tcu} (h : t.settingsValid) : holdsLabels t.base t.drop := by
  obtain ⟨hbase, hdrop⟩ := h
  refine ⟨Nat.pos_of_ne_zero fun hzero => ?_, fun hon => ?_⟩
  · simp [validBase, hzero] at hbase
  · obtain h30 | h60 := hdrop hon
    · rw [h30]; decide
    · rw [h60]; decide

section

variable {base : Nat} {drop : Bool} {l : Label}

/-- Midnight is valid, for minute 0 passes no label over. -/
theorem Label.valid_midnight (h : holdsLabels base drop) : ({} : Label).valid base drop = true := by
  rw [Label.valid_iff, Label.inRange_iff, Label.skipped_iff]
  exact ⟨⟨by decide, by decide, by decide, h.1⟩, fun ⟨_, _, hminute, _⟩ => hminute rfl⟩

/-- The advance of a valid label is valid: the next frame lies behind the frames passed over, the next second begins no
minute, and the next minute begins at the first frame held (R119). -/
theorem Label.valid_advance (h : holdsLabels base drop) (hl : l.valid base drop = true) :
    (l.advance base drop).valid base drop = true := by
  obtain ⟨hbase, hfloor⟩ := h
  simp only [Label.valid_iff, Label.inRange_iff, Label.skipped_iff] at hl ⊢
  obtain ⟨⟨hhours, hminutes, hseconds, hframes⟩, hheld⟩ := hl
  unfold Label.advance
  split
  · next hframe =>
    exact ⟨⟨hhours, hminutes, hseconds, hframe⟩, fun ⟨hon, hsecond, hminute, hlow⟩ =>
      hheld ⟨hon, hsecond, hminute, (Nat.lt_succ_self _).trans hlow⟩⟩
  · split
    · next hsecond => exact ⟨⟨hhours, hminutes, hsecond, hbase⟩, fun ⟨_, hzero, _⟩ => Nat.succ_ne_zero _ hzero⟩
    · dsimp only
      generalize hm : (if l.minutes + 1 < 60 then l.minutes + 1 else 0) = m
      generalize hh : (if l.minutes + 1 < 60 then l.hours else if l.hours + 1 < 24 then l.hours + 1 else 0) = k
      have hm60 : m < 60 := by split at hm <;> omega
      have hk24 : k < 24 := by
        split at hh
        · omega
        · split at hh <;> omega
      split
      · next hskips =>
        obtain ⟨hon, -⟩ := Bool.and_eq_true_iff.1 hskips
        exact ⟨⟨hk24, hm60, by decide, hfloor hon⟩, fun ⟨_, _, _, hlow⟩ => Nat.lt_irrefl _ hlow⟩
      · next hskips =>
        exact ⟨⟨hk24, hm60, by decide, hbase⟩, fun ⟨hon, _, hminute, _⟩ => hskips (by simp [hon, hminute])⟩

/-- A jam's label in range is loaded as a valid one: a skipped label becomes the first one held (R126). -/
theorem Label.valid_clampSkipped (h : holdsLabels base drop) (hl : l.inRange base = true) :
    (l.clampSkipped base drop).valid base drop = true := by
  unfold Label.clampSkipped
  split
  · next hskipped =>
    obtain ⟨hon, -⟩ := (Label.skipped_iff ..).1 hskipped
    obtain ⟨hhours, hminutes, hseconds, -⟩ := (Label.inRange_iff ..).1 hl
    rw [Label.valid_iff, Label.inRange_iff, Label.skipped_iff]
    exact ⟨⟨hhours, hminutes, hseconds, h.2 hon⟩, fun ⟨_, _, _, hlow⟩ => Nat.lt_irrefl _ hlow⟩
  · next hskipped => exact (Label.valid_iff ..).2 ⟨hl, hskipped⟩

end

/-! ## The TCU: one rule per update of its labels

An update of the TCU's other registers and counters leaves `labelsValid` as it was by definition. -/

namespace Tcu.labelsValid

variable {t : Tcu}

theorem holdsLabels (h : t.labelsValid) : holdsLabels t.base t.drop := h.1.holdsLabels

/-- A pulse loads the pending jam or advances the free-run counter (R122). -/
theorem tick (h : t.labelsValid) : t.tick.labelsValid := by
  obtain ⟨hset, hfree, hrecord, hjam, hopen, hcapture⟩ := h
  unfold Tcu.tick
  split
  · next j hj => exact ⟨hset, hjam j hj, hrecord, nofun, hopen, hcapture⟩
  · exact ⟨hset, Label.valid_advance hset.holdsLabels hfree, hrecord, hjam, hopen, hcapture⟩

/-- An open takes the free-run label (R124). -/
theorem noteOpen (h : t.labelsValid) (source : Nat) : (t.noteOpen source).labelsValid := by
  obtain ⟨hset, hfree, hrecord, hjam, -, hcapture⟩ := h
  refine ⟨hset, hfree, hrecord, hjam, ?_, hcapture⟩
  rintro o ⟨⟩
  exact hfree

/-- The capture record takes the label of the last open, or the free-run label before any open (R130). -/
theorem loadCapture (h : t.labelsValid) (rising : Bool) : (t.loadCapture rising).labelsValid := by
  obtain ⟨hset, hfree, hrecord, hjam, hopen, -⟩ := h
  refine ⟨hset, hfree, hrecord, hjam, hopen, ?_⟩
  rintro c ⟨⟩
  split
  · next o ho => exact hopen o ho
  · exact hfree

theorem withRecordRun (h : t.labelsValid) {l : Label} (hl : l.valid t.base t.drop = true) :
    { t with recordRun := l }.labelsValid := by
  obtain ⟨hset, hfree, -, hjam, hopen, hcapture⟩ := h
  exact ⟨hset, hfree, hl, hjam, hopen, hcapture⟩

theorem pendJam (h : t.labelsValid) {l : Label} (hl : l.valid t.base t.drop = true) (align : Bool) :
    (t.pendJam l align).labelsValid := by
  obtain ⟨hset, hfree, hrecord, -, hopen, hcapture⟩ := h
  refine ⟨hset, hfree, hrecord, ?_, hopen, hcapture⟩
  rintro j ⟨⟩
  exact hl

theorem loadJam (h : t.labelsValid) {l : Label} (hl : l.valid t.base t.drop = true) (align : Bool) :
    (t.loadJam l align).labelsValid := h.withRecordRun hl

/-- RESET keeps the free-run counter with its base and drop setting, and clears every other label (R133). -/
theorem afterReset (h : t.labelsValid) : t.afterReset.labelsValid := by
  obtain ⟨hset, hfree, -⟩ := h
  exact ⟨hset, hfree, Label.valid_midnight hset.holdsLabels, nofun, nofun, nofun⟩

end Tcu.labelsValid

/-- A change of base or drop setting leaves both counters at midnight and no other label (R121). -/
theorem Tcu.labelsValid_rebase {t : Tcu} {base : Nat} {drop : Bool} (h : Tcu.settingsValid { t with base, drop })
    (mode : TcMode) : { t.rebase base drop with mode := mode }.labelsValid :=
  ⟨h, Label.valid_midnight h.holdsLabels, Label.valid_midnight h.holdsLabels, nofun, nofun, nofun⟩

/-! ## The TCU's part of pulses, opens and edges -/

section

variable {s : State} (hs : s.tcu.labelsValid)
include hs

theorem State.takeRefLoss_labelsValid : s.takeRefLoss.tcu.labelsValid := by
  unfold State.takeRefLoss
  split
  · simp only [State.notify_frame]
    exact hs
  · exact hs

theorem State.restoreRef_labelsValid : s.restoreRef.tcu.labelsValid := by
  unfold State.restoreRef
  split
  · exact hs
  · simp only [State.notify_frame]
    exact hs

theorem State.refPulse_labelsValid : s.refPulse.tcu.labelsValid := by
  have htick : s.takeRefLoss.tcu.endInterval.tick.labelsValid :=
    Tcu.labelsValid.tick (t := s.takeRefLoss.tcu.endInterval) (State.takeRefLoss_labelsValid hs)
  exact State.restoreRef_labelsValid (s := { s.takeRefLoss with tcu := s.takeRefLoss.tcu.endInterval.tick }) htick

theorem State.tcuOpen_labelsValid (source : Nat) : (s.tcuOpen source).tcu.labelsValid :=
  State.takeRefLoss_labelsValid (s := { s with tcu := s.tcu.noteOpen source }) (hs.noteOpen source)

theorem State.advanceRecordRun_labelsValid : s.advanceRecordRun.tcu.labelsValid := by
  have ⟨hset, _, hrecord, _⟩ := hs
  exact hs.withRecordRun (Label.valid_advance hset.holdsLabels hrecord)

/-! ## Record-run stamps (R125)

The TKC reaches the TCU through the record-run counter alone: a picture that joins a take in record-run mode takes its
label and advances it. -/

theorem State.tkcOpen_labelsValid (source : Nat) (kept : Bool) : (s.tkcOpen source kept).tcu.labelsValid := by
  simp only [State.tkcOpen]
  split
  · exact hs
  · split
    · exact hs
    · split
      · exact hs
      · exact State.advanceRecordRun_labelsValid hs

theorem State.joinPicture_labelsValid (take source : Nat) : (s.joinPicture take source).tcu.labelsValid := by
  unfold State.joinPicture
  split
  · simpa using hs
  · exact State.advanceRecordRun_labelsValid (by simpa using hs)

theorem State.joinPreRoll_labelsValid (t : TakeRec) (sources : List Nat) :
    (s.joinPreRoll t sources).tcu.labelsValid := by
  have hjoined : (sources.foldl (fun s n => s.joinPicture t.number n) s).tcu.labelsValid :=
    List.foldlRecOn (motive := fun u : State => u.tcu.labelsValid) sources _ hs
      fun _ hu n _ => State.joinPicture_labelsValid hu t.number n
  simp only [State.joinPreRoll]
  rw [foldl_frame State.tcu _ (fun u a => by simp), foldl_frame State.tcu _ (fun u a => by simp)]
  simpa using hjoined

theorem State.startTake_labelsValid (p : Nat) : (s.startTake p).tcu.labelsValid :=
  State.joinPreRoll_labelsValid (by simpa using hs) ..

theorem State.triggerEvent_labelsValid (k : TrigKind) : (s.triggerEvent k).tcu.labelsValid := by
  unfold State.triggerEvent
  split
  · split
    · exact State.startTake_labelsValid hs _
    · exact State.startTake_labelsValid hs _
    · exact hs
  · split
    · exact State.startTake_labelsValid hs _
    · exact State.startTake_labelsValid hs _
    · exact hs
  · split
    · exact hs
    · split
      · simpa using hs
      · simpa using hs
      · exact hs

theorem State.trigEdge_labelsValid (rising : Bool) : (s.trigEdge rising).tcu.labelsValid := by
  simp only [State.trigEdge]
  split
  · exact hs
  · split
    · refine State.triggerEvent_labelsValid ?_ _
      exact Tcu.labelsValid.loadCapture (t := { s.tcu with trigHigh := rising }) hs rising
    · exact hs

theorem State.openEvent_labelsValid (source : Nat) (kept : Bool) : (s.openEvent source kept).tcu.labelsValid := by
  have hopen := State.tcuOpen_labelsValid hs source
  simp only [State.openEvent, State.countOpen_frame]
  exact State.tkcOpen_labelsValid (by simpa using hopen) ..

theorem State.openPicture_labelsValid (q : BitVec 16) (dims : Option (Nat × Nat)) (openLost : Bool) :
    (s.openPicture q dims openLost).tcu.labelsValid :=
  State.openEvent_labelsValid (by simpa using hs) ..

theorem State.takeOpen_labelsValid (q seqCopy w h : BitVec 16) : (s.takeOpen q seqCopy w h).tcu.labelsValid := by
  simp only [State.takeOpen]
  split
  · simpa using hs
  · split
    · exact State.openPicture_labelsValid (by simpa using hs) ..
    · simpa using hs
    · simpa using hs

theorem State.takeTile_labelsValid (q position : BitVec 16) (bytes : List Byte) :
    (s.takeTile q position bytes).tcu.labelsValid := by
  simp only [State.takeTile]
  split
  · simpa using hs
  · split
    · simp only [State.currentTile_frame]
      exact State.openPicture_labelsValid (by simpa using hs) ..
    · simpa using hs
    · simpa using hs

end

/-! ## The directives -/

/-- An owner that keeps the labels valid keeps them so over the whole execution. -/
theorem State.execute_labelsValid {k : DirKind} {owner : Directive → State → Taken} {s : State}
    (hs : s.tcu.labelsValid) (howner : ∀ d u, u.tcu.labelsValid → (owner d u).state.tcu.labelsValid) :
    (s.execute k owner).tcu.labelsValid :=
  State.execute_induction (P := fun u => u.tcu.labelsValid) hs (fun _ _ _ _ hu => by simpa using hu)
    (fun d => howner d _ (by simpa using hs))

/-- The range check of SET TIMECODE on its base and drop setting (R120). -/
theorem settings_refused_iff (base : Nat) (drop : Bool) :
    (!validBase base || (drop && base != 30 && base != 60)) = true ↔
      base ∉ [24, 25, 30, 48, 50, 60] ∨ (drop = true ∧ base ≠ 30 ∧ base ≠ 60) := by
  simp [validBase, and_assoc]

theorem Tcu.settingsValid_iff (t : Tcu) : t.settingsValid ↔
    t.base ∈ [24, 25, 30, 48, 50, 60] ∧ (t.drop = true → t.base = 30 ∨ t.base = 60) := by
  simp [Tcu.settingsValid, validBase]

/-- The settings that SET TIMECODE's check lets through are valid. -/
theorem Tcu.settingsValid_of_passed {t : Tcu} {base : Nat} {drop : Bool}
    (h : ¬ (!validBase base || (drop && base != 30 && base != 60)) = true) :
    Tcu.settingsValid { t with base, drop } := by
  rw [settings_refused_iff] at h
  rw [Tcu.settingsValid_iff]
  dsimp only
  tauto

section owners

variable (d : Directive) {s : State} (hs : s.tcu.labelsValid)
include hs

theorem ownSetTimecode_labelsValid : (ownSetTimecode d s).state.tcu.labelsValid := by
  simp only [ownSetTimecode]
  split
  · exact hs
  · split
    · exact hs
    · next hchecks =>
      split
      · exact hs
      · split
        · exact hs
        · split
          · exact hs
          · exact Tcu.labelsValid_rebase (Tcu.settingsValid_of_passed hchecks) _

theorem ownJam_labelsValid : (ownJam d s).state.tcu.labelsValid := by
  simp only [ownJam]
  split
  · exact hs
  · split
    · exact hs
    · next hrange =>
      have htaken := Label.valid_clampSkipped hs.holdsLabels (by simpa using hrange)
      split
      · exact hs.pendJam htaken _
      · exact hs.loadJam htaken _

theorem ownStart_labelsValid : (ownStart d s).state.tcu.labelsValid := by
  unfold ownStart
  split
  · exact hs
  · exact State.startTake_labelsValid hs _
  · exact State.startTake_labelsValid hs _

/-- The clear option of a QUERY reaches the TCU's counters alone (R189). -/
theorem ownQuery_labelsValid : (ownQuery d s).state.tcu.labelsValid := by
  have hclear : ∀ g, (s.clearGroup g).tcu.labelsValid := fun g => by cases g <;> exact hs
  unfold ownQuery
  split
  · exact hs
  · dsimp only
    split
    · exact hclear _
    · exact hs

theorem ownReset_labelsValid : (ownReset d s).state.tcu.labelsValid := by
  simp only [ownReset, State.resetPlane_eq]
  exact (State.takeRefLoss_labelsValid hs).afterReset

end owners

/-! ## The directives that leave the TCU alone -/

section owners

variable (d : Directive) (s : State)

theorem ownLoadProfile_tcu : (ownLoadProfile d s).state.tcu = s.tcu := by
  unfold ownLoadProfile State.loadF State.loadP
  (repeat' split) <;> simp [refuse]

theorem ownLoadLadder_tcu : (ownLoadLadder d s).state.tcu = s.tcu := by
  simp only [ownLoadLadder]
  (repeat' split) <;> simp [refuse]

theorem ownSetRing_tcu : (ownSetRing d s).state.tcu = s.tcu := by
  simp only [ownSetRing]
  (repeat' split) <;> simp [refuse]

theorem ownSetLanes_tcu : (ownSetLanes d s).state.tcu = s.tcu := by
  unfold ownSetLanes
  (repeat' split) <;> rfl

theorem ownSetLaneBFeed_tcu : (ownSetLaneBFeed d s).state.tcu = s.tcu := by
  unfold ownSetLaneBFeed
  split <;> rfl

theorem ownSetTrigger_tcu : (ownSetTrigger d s).state.tcu = s.tcu := by
  unfold ownSetTrigger
  split <;> rfl

theorem ownDisarm_tcu : (ownDisarm d s).state.tcu = s.tcu := by
  unfold ownDisarm
  split <;> rfl

theorem ownStop_tcu : (ownStop d s).state.tcu = s.tcu := by
  simp only [ownStop]
  (repeat' split) <;> simp [refuse]

theorem ownMark_tcu : (ownMark d s).state.tcu = s.tcu := by
  simp only [ownMark]
  (repeat' split) <;> simp [refuse]

theorem ownReadTake_tcu : (ownReadTake d s).state.tcu = s.tcu := by
  unfold ownReadTake
  split <;> rfl

end owners

/-! ## The commands -/

theorem exec_labelsValid (c : Instr) {s : State} (hs : s.tcu.labelsValid) :
    ∃ t, exec c s = .next t ∧ t.tcu.labelsValid := by
  have howner : ∀ {k : DirKind} {owner : Directive → State → Taken},
      (∀ d u, (owner d u).state.tcu = u.tcu) → (s.execute k owner).tcu.labelsValid :=
    fun howner => State.execute_labelsValid hs fun d u hu => by rwa [howner d u]
  cases c with
  | resetLine trigHigh => exact ⟨_, rfl, State.reset_labelsValid⟩
  | refPulse => exact ⟨_, rfl, State.refPulse_labelsValid hs⟩
  | refLost => exact ⟨_, rfl, State.takeRefLoss_labelsValid hs⟩
  | trigEdge rising => exact ⟨_, rfl, State.trigEdge_labelsValid hs rising⟩
  | openPacket q seqCopy w h => exact ⟨_, rfl, State.takeOpen_labelsValid hs ..⟩
  | tilePacket q position bytes => exact ⟨_, rfl, State.takeTile_labelsValid hs ..⟩
  | setTimecode => exact ⟨_, rfl, State.execute_labelsValid hs fun d _ hu => ownSetTimecode_labelsValid d hu⟩
  | jam => exact ⟨_, rfl, State.execute_labelsValid hs fun d _ hu => ownJam_labelsValid d hu⟩
  | start => exact ⟨_, rfl, State.execute_labelsValid hs fun d _ hu => ownStart_labelsValid d hu⟩
  | query => exact ⟨_, rfl, State.execute_labelsValid hs fun d _ hu => ownQuery_labelsValid d hu⟩
  | reset => exact ⟨_, rfl, State.execute_labelsValid hs fun d _ hu => ownReset_labelsValid d hu⟩
  | loadProfile => exact ⟨_, rfl, howner ownLoadProfile_tcu⟩
  | loadLadder => exact ⟨_, rfl, howner ownLoadLadder_tcu⟩
  | setRing => exact ⟨_, rfl, howner ownSetRing_tcu⟩
  | setLanes => exact ⟨_, rfl, howner ownSetLanes_tcu⟩
  | setLaneBFeed => exact ⟨_, rfl, howner ownSetLaneBFeed_tcu⟩
  | setTrigger => exact ⟨_, rfl, howner ownSetTrigger_tcu⟩
  | arm => exact ⟨_, rfl, howner fun _ _ => rfl⟩
  | disarm => exact ⟨_, rfl, howner ownDisarm_tcu⟩
  | stop => exact ⟨_, rfl, howner ownStop_tcu⟩
  | mark => exact ⟨_, rfl, howner ownMark_tcu⟩
  | readTake => exact ⟨_, rfl, howner ownReadTake_tcu⟩
  | clearTakes => exact ⟨_, rfl, howner fun _ _ => rfl⟩
  | unknownDirective =>
    simp only [exec, execUnknownDirective]
    split
    · exact ⟨_, rfl, hs⟩
    · split
      · exact ⟨_, rfl, hs⟩
      · exact ⟨_, rfl, by simpa using hs⟩
  | headerFailure | badPacket | closePacket | directivePacket | fillPacket | creditPulse | laneStall | lanePacketSent
  | arbiterChoice | handOver | codeTile | passByEntry | passByRow | restart =>
    exact ⟨_, rfl, by simpa using hs⟩

/-- Settles O10: every command keeps the labels valid, and a step is a command's execution or changes nothing. -/
theorem labelsStayValid : Obligations.LabelsStayValid := by
  intro s t hs h
  unfold step at h
  split at h
  · cases h
    exact hs
  · next c rest _ =>
    obtain ⟨u, hu, hvalid⟩ := exec_labelsValid c (s := { s with pending := rest }) hs
    cases hu.symm.trans h
    exact hvalid

end Sys2Proof.Machine
end

section
/-! The Timecode Unit's commands: REF_PULSE, REF_LOST, TRIG_EDGE, SET_TIMECODE and JAM (R120 to R131, R157). -/

namespace Sys2Proof.Machine

/-! ## REF (R122, R123) -/

theorem Tcu.lossDue_iff (t : Tcu) : t.lossDue = true ↔ t.refPresent = true ∧ 8 ≤ t.opensSincePulse := by
  simp [Tcu.lossDue]

/-- A loss is taken once: behind it REF is LOST (R123). -/
theorem State.takeRefLoss_takeRefLoss (s : State) : s.takeRefLoss.takeRefLoss = s.takeRefLoss := by
  refine State.takeRefLoss_of_not_due ?_
  unfold State.takeRefLoss
  split
  · simp
  · next hdue =>
    rw [Tcu.lossDue_iff] at hdue
    cases hpresent : s.tcu.refPresent
    · exact .inl rfl
    · exact .inr (by simpa [hpresent] using hdue)

/-- Settles O38. -/
theorem refLostAfterEightOpens : Obligations.RefLostAfterEightOpens := by
  intro s
  refine ⟨fun hpresent height => ?_, fun hnone => congrArg Host.Outcome.next (State.takeRefLoss_of_not_due hnone), ?_⟩
  · have hdue : s.tcu.lossDue = true := (s.tcu.lossDue_iff).2 ⟨hpresent, height⟩
    exact congrArg Host.Outcome.next (if_pos hdue)
  · rintro s1 ⟨⟩
    have hpulse : s.takeRefLoss.refPulse = s.refPulse := by simp only [State.refPulse, s.takeRefLoss_takeRefLoss]
    exact congrArg Host.Outcome.next hpulse.symm

/-- The first two steps of a pulse, on the TCU alone: the label no picture took, and the new free-run label (R122). -/
theorem Tcu.tick_endInterval (t : Tcu) : t.endInterval.tick = { t with
    labelTaken := false
    freeRun := (t.jam.map Jam.label).getD (t.freeRun.advance t.base t.drop)
    jam := none
    alignAwaiting := t.alignAwaiting || (t.jam.map Jam.align).getD false
    counters := { t.counters with
      skippedLabels := if t.labelTaken then t.counters.skippedLabels else bump t.counters.skippedLabels
      jamsLoaded := if t.jam.isSome then bump t.counters.jamsLoaded else t.counters.jamsLoaded } } := by
  unfold Tcu.tick Tcu.endInterval
  cases hjam : t.jam <;> cases t.labelTaken <;> simp

/-- Settles O37: with no loss due, the pulse ends the interval and restores REF. -/
theorem refPulseAdvancesFreeRun : Obligations.RefPulseAdvancesFreeRun := by
  rintro s label hwatch rfl
  have hloss : s.takeRefLoss = s := by
    refine State.takeRefLoss_of_not_due ?_
    cases hpresent : s.tcu.refPresent
    · exact .inl rfl
    · exact .inr (hwatch hpresent)
  refine congrArg Host.Outcome.next ?_
  simp only [State.refPulse, hloss, Tcu.tick_endInterval, State.restoreRef]
  cases hpresent : s.tcu.refPresent
  · rfl
  · simp [Tcu.countPulse]

/-! ## TRIG (R130, R131, R157) -/

theorem TrigMode.selects_eq_false_iff (m : TrigMode) (rising : Bool) :
    m.selects rising = false ↔
      m = .off ∨ (m = .rising ∧ rising = false) ∨ (m = .falling ∧ rising = true) := by
  cases m <;> simp [TrigMode.selects]

/-- The edges a mode selects, with the kind of event each gives (Table 7-6). -/
theorem TrigMode.selects_kind_iff (m : TrigMode) (rising : Bool) (k : TrigKind) :
    (m.selects rising = true ∧ m.kind rising = k) ↔
      (m = .rising ∧ rising = true ∧ k = .toggle) ∨ (m = .falling ∧ rising = false ∧ k = .toggle) ∨
        (m = .both ∧ rising = true ∧ k = .start) ∨ (m = .both ∧ rising = false ∧ k = .stop) := by
  cases m <;> cases rising <;> simp [TrigMode.selects, TrigMode.kind, eq_comm]

theorem Tcu.loadCapture_eq (t : Tcu) (rising : Bool) : t.loadCapture rising = { t with
    capture := some ⟨t.lastOpen.map LastOpen.source, (t.lastOpen.map LastOpen.label).getD t.freeRun⟩
    counters := if rising then { t.counters with risingEdges := bump t.counters.risingEdges }
      else { t.counters with fallingEdges := bump t.counters.fallingEdges } } := by
  unfold Tcu.loadCapture
  cases t.lastOpen <;> rfl

theorem State.trigEdge_same (s : State) : s.trigEdge s.tcu.trigHigh = s := if_pos rfl

theorem State.trigEdge_of_unselected {s : State} {rising : Bool} (hedge : s.tcu.trigHigh ≠ rising)
    (h : s.prs.trigger.selects rising = false) :
    s.trigEdge rising = { s with tcu := { s.tcu with trigHigh := rising } } := by
  simp [State.trigEdge, hedge, h]

theorem State.trigEdge_of_selected {s : State} {rising : Bool} (hedge : s.tcu.trigHigh ≠ rising)
    (h : s.prs.trigger.selects rising = true) :
    s.trigEdge rising = State.triggerEvent
      { s with tcu := { s.tcu with trigHigh := rising }.loadCapture rising } (s.prs.trigger.kind rising) := by
  simp [State.trigEdge, hedge, h]

/-- A take is running when it is OPEN and no stop is pending. -/
theorem Tkc.running_eq_some {k : Tkc} {o : TakeRec} (hopen : k.inState .opened = some o)
    (hstop : o.stopPending = none) : k.running = some o := by
  simp [Tkc.running, hopen, hstop]

theorem Tkc.running_eq_none {k : Tkc} (h : ∀ o, k.inState .opened = some o → o.stopPending.isSome = true) :
    k.running = none := by
  unfold Tkc.running
  split
  · next o hopen => rw [if_pos (h o hopen)]
  · rfl

/-- Outside RECORDING an event starts a take, but for one of kind STOP, which is ignored (R157). -/
theorem State.triggerEvent_of_not_recording {s : State} (h : s.tkc.ctl ≠ .recording) (k : TrigKind) :
    s.triggerEvent k = if k = .stop then s.ignoreTrigger else s.startTake s.tkc.pmax := by
  unfold State.triggerEvent
  cases hctl : s.tkc.ctl with
  | recording => exact absurd hctl h
  | idle => cases k <;> rfl
  | caching => cases k <;> rfl

theorem State.triggerEvent_of_running {s : State} {o : TakeRec} (hctl : s.tkc.ctl = .recording)
    (ho : s.tkc.running = some o) (k : TrigKind) :
    s.triggerEvent k = if k = .start then s.ignoreTrigger else s.leaveOpen o .trigger (s.tkc.stopEnd o) := by
  simp only [State.triggerEvent, hctl, ho]
  cases k <;> rfl

theorem State.triggerEvent_of_none_running {s : State} (hctl : s.tkc.ctl = .recording) (h : s.tkc.running = none)
    (k : TrigKind) : s.triggerEvent k = s.ignoreTrigger := by
  simp only [State.triggerEvent, hctl, h]

/-- Inside RECORDING an event of kind START is ignored, whether or not a take is running (R157). -/
theorem State.triggerEvent_start {s : State} (hctl : s.tkc.ctl = .recording) :
    s.triggerEvent .start = s.ignoreTrigger := by
  cases hrunning : s.tkc.running with
  | none => exact State.triggerEvent_of_none_running hctl hrunning _
  | some o => exact State.triggerEvent_of_running hctl hrunning _

/-- Settles O39: the edge by level and mode, then the event by the controller's state. -/
theorem trigEdgesAreTestedAndTaken : Obligations.TrigEdgesAreTestedAndTaken := by
  refine ⟨fun s rising => ⟨congrArg Host.Outcome.next s.trigEdge_same, fun hedge => ⟨fun hmode => ?unselected,
    fun k hmode => ?selected⟩⟩, fun s k => ⟨fun hctl hk => ?start, fun o hctl hopen hstop hk => ?stop, ?ignored⟩⟩
  case unselected =>
    have hsel := (TrigMode.selects_eq_false_iff ..).2 hmode
    exact congrArg Host.Outcome.next (State.trigEdge_of_unselected hedge hsel)
  case selected =>
    obtain ⟨hsel, hkind⟩ := (TrigMode.selects_kind_iff ..).2 hmode
    refine congrArg Host.Outcome.next ?_
    rw [State.trigEdge_of_selected hedge hsel, hkind, Tcu.loadCapture_eq]
  case start => rw [State.triggerEvent_of_not_recording hctl, if_neg hk]
  case stop => rw [State.triggerEvent_of_running hctl (Tkc.running_eq_some hopen hstop), if_neg hk]
  case ignored =>
    change _ → s.triggerEvent k = s.ignoreTrigger
    rintro (⟨hctl, rfl⟩ | ⟨hctl, rfl | hpending⟩)
    · rw [State.triggerEvent_of_not_recording hctl, if_pos rfl]
    · exact State.triggerEvent_start hctl
    · exact State.triggerEvent_of_none_running hctl (Tkc.running_eq_none hpending) k

/-! ## SET TIMECODE (R120, R121) -/

theorem State.noStamps_iff (s : State) : s.noStamps = true ↔
    s.ti.table = [] ∧ s.fsc.f.dir = [] ∧ s.fsc.p.dir = [] ∧ s.tkc.takes = [] := by
  simp [State.noStamps, and_assoc]

section

variable {s : State} {d : Directive} {base : Nat} {drop : Bool}

theorem ownSetTimecode_of_busy (h : s.tkc.busy = true) : ownSetTimecode d s = refuse s .refusedBusy := if_pos h

theorem ownSetTimecode_of_range (hbusy : s.tkc.busy = false) (hbase : base = fieldAt d.args 0 1)
    (hdrop : drop = flagAt d.args 1)
    (h : base ∉ [24, 25, 30, 48, 50, 60] ∨ (drop = true ∧ base ≠ 30 ∧ base ≠ 60) ∨
      tcModeOf (fieldAt d.args 2 1) = none) : ownSetTimecode d s = refuse s .refusedRange := by
  subst hbase hdrop
  rw [← or_assoc, ← settings_refused_iff] at h
  simp only [ownSetTimecode, hbusy, Bool.false_eq_true, if_false]
  split
  · rfl
  · next hpassed => rw [h.resolve_left hpassed]

/-- A SET TIMECODE that passes its range checks, by the setting held and what holds a label of it (R120, R121). -/
theorem ownSetTimecode_of_passed {mode : TcMode} (hbusy : s.tkc.busy = false) (hbase : base = fieldAt d.args 0 1)
    (hdrop : drop = flagAt d.args 1) (hvalid : base ∈ [24, 25, 30, 48, 50, 60])
    (hallowed : drop = true → base = 30 ∨ base = 60) (hmode : tcModeOf (fieldAt d.args 2 1) = some mode) :
    ownSetTimecode d s =
      if base = s.tcu.base ∧ drop = s.tcu.drop then ⟨{ s with tcu := { s.tcu with mode := mode } }, .done, .none⟩
      else if s.noStamps = true then
        ⟨{ s.takeRefLoss with tcu := { s.takeRefLoss.tcu.rebase base drop with mode := mode } }, .done, .none⟩
      else refuse s .refusedBusy := by
  have hpassed : ¬ (!validBase base || (drop && base != 30 && base != 60)) = true := by
    rw [settings_refused_iff]
    tauto
  subst hbase hdrop
  simp only [ownSetTimecode, hbusy, hpassed, hmode]
  cases s.noStamps <;> rfl

end

/-- Settles O40. -/
theorem setTimecodeChecksAndRebases : Obligations.SetTimecodeChecksAndRebases := by
  intro s d rest base drop hacc hbase hdrop
  refine ⟨fun hbusy => State.next_of_refused hacc (ownSetTimecode_of_busy hbusy),
    fun hbusy hrange => State.next_of_refused hacc (ownSetTimecode_of_range hbusy hbase hdrop hrange),
    fun mode hbusy hvalid hallowed hmode => ?_⟩
  have howner := ownSetTimecode_of_passed (s := s.countTaken .setTimecode) hbusy hbase hdrop hvalid hallowed hmode
  have hchanged : base ≠ s.tcu.base ∨ drop ≠ s.tcu.drop → ¬ (base = s.tcu.base ∧ drop = s.tcu.drop) :=
    fun h => not_and_or.2 h
  refine ⟨fun hsame hkept => State.next_of_taken hacc (howner.trans (if_pos ⟨hsame, hkept⟩)),
    fun hne hheld => State.next_of_refused hacc ?_, fun hne htable hf hp htakes hloss => ?_⟩
  · have hstamps : ¬ s.noStamps = true := by rw [s.noStamps_iff]; tauto
    exact howner.trans ((if_neg (hchanged hne)).trans (if_neg hstamps))
  · have hstamps : s.noStamps = true := s.noStamps_iff.2 ⟨htable, hf, hp, htakes⟩
    rw [State.takeRefLoss_of_not_due (by simpa using hloss)] at howner
    exact State.next_of_taken hacc (howner.trans ((if_neg (hchanged hne)).trans (if_pos hstamps)))

/-! ## JAM (R126 to R128) -/

/-- The label a JAM is taken with and its reply code, by R118's list of the labels that drop mode skips. -/
theorem Label.clampSkipped_eq {l taken : Label} {base : Nat} {drop : Bool} {rc : ReplyCode}
    (h : if drop = true ∧ l.seconds = 0 ∧ l.minutes % 10 ≠ 0 ∧ l.frames < dropFloor base then
        taken = { l with frames := dropFloor base } ∧ rc = .doneClamped
      else taken = l ∧ rc = .done) :
    l.clampSkipped base drop = taken ∧ (if l.skipped base drop then .doneClamped else .done) = rc := by
  unfold Label.clampSkipped
  by_cases hskipped : l.skipped base drop = true
  · rw [if_pos ((Label.skipped_iff ..).1 hskipped)] at h
    obtain ⟨rfl, rfl⟩ := h
    exact ⟨if_pos hskipped, if_pos hskipped⟩
  · rw [if_neg (mt (Label.skipped_iff ..).2 hskipped)] at h
    obtain ⟨rfl, rfl⟩ := h
    exact ⟨if_neg hskipped, if_neg hskipped⟩

section

variable {s : State} {d : Directive}

theorem ownJam_of_busy (hmode : s.tcu.mode = .recordRun) (hbusy : s.tkc.busy = true) :
    ownJam d s = refuse s .refusedBusy := if_pos ⟨hmode, hbusy⟩

theorem ownJam_of_range (hfree : s.tcu.mode = .freeRun ∨ s.tkc.busy = false)
    (hrange : ¬ (labelAt d.args 0).inRange s.tcu.base = true) : ownJam d s = refuse s .refusedRange := by
  have hallowed : ¬ (s.tcu.mode = .recordRun ∧ s.tkc.busy = true) := by
    rintro ⟨hmode, hbusy⟩
    simp [hmode, hbusy] at hfree
  simp [ownJam, hallowed, hrange]

/-- In free-run mode a label in range becomes the pending jam (R127). -/
theorem ownJam_freeRun (hmode : s.tcu.mode = .freeRun) (hrange : (labelAt d.args 0).inRange s.tcu.base = true) :
    ownJam d s =
      ⟨{ s with tcu := s.tcu.pendJam ((labelAt d.args 0).clampSkipped s.tcu.base s.tcu.drop) (flagAt d.args 4) },
        if (labelAt d.args 0).skipped s.tcu.base s.tcu.drop then .doneClamped else .done,
        .jammed ((labelAt d.args 0).clampSkipped s.tcu.base s.tcu.drop) true⟩ := by
  simp [ownJam, hmode, hrange]

/-- In record-run mode, outside a take, a label in range is loaded (R128). -/
theorem ownJam_recordRun (hmode : s.tcu.mode = .recordRun) (hbusy : s.tkc.busy = false)
    (hrange : (labelAt d.args 0).inRange s.tcu.base = true) :
    ownJam d s =
      ⟨{ s with tcu := s.tcu.loadJam ((labelAt d.args 0).clampSkipped s.tcu.base s.tcu.drop) (flagAt d.args 4) },
        if (labelAt d.args 0).skipped s.tcu.base s.tcu.drop then .doneClamped else .done,
        .jammed ((labelAt d.args 0).clampSkipped s.tcu.base s.tcu.drop) false⟩ := by
  simp [ownJam, hmode, hbusy, hrange]

end

/-- Settles O41. -/
theorem jamChecksAndLoads : Obligations.JamChecksAndLoads := by
  rintro s d rest l hacc rfl
  refine ⟨fun hmode hbusy => State.next_of_refused hacc (ownJam_of_busy hmode hbusy),
    fun hfree hout => State.next_of_refused hacc (ownJam_of_range hfree ?_),
    fun taken rc hhours hminutes hseconds hframes htaken => ?_⟩
  · simp only [State.countTaken_frame, Label.inRange_iff]
    omega
  · have hrange := (Label.inRange_iff ..).2 ⟨hhours, hminutes, hseconds, hframes⟩
    obtain ⟨rfl, rfl⟩ := Label.clampSkipped_eq htaken
    exact ⟨fun hmode => State.next_of_taken hacc (ownJam_freeRun hmode hrange),
      fun hmode hbusy => State.next_of_taken hacc (ownJam_recordRun hmode hbusy hrange)⟩

end Sys2Proof.Machine
end

section
/-! The Take Table (8.2, R138, R149, R150): which records an update reaches, the take in a state, and the order that
every update of the table keeps: one OPEN take at most, and the live takes under the numbers given last. -/

namespace Sys2Proof.Machine

/-! ## Take numbers (R138) -/

theorem previousTakeNumber_nextTakeNumber {n : Nat} (hlow : 1 ≤ n) :
    previousTakeNumber (nextTakeNumber n) = n := by
  unfold previousTakeNumber nextTakeNumber
  (repeat' split) <;> omega

theorem nextTakeNumber_bounds {n : Nat} (hhigh : n ≤ 65535) :
    1 ≤ nextTakeNumber n ∧ nextTakeNumber n ≤ 65535 := by
  unfold nextTakeNumber
  split <;> omega

theorem previousTakeNumber_ne {n : Nat} (hlow : 1 ≤ n) : previousTakeNumber n ≠ n := by
  unfold previousTakeNumber
  split <;> omega

theorem previousTakeNumber_pos {n : Nat} (hlow : 1 ≤ n) : 1 ≤ previousTakeNumber n := by
  unfold previousTakeNumber
  split <;> omega

/-! ## The records of a number, and the take in a state -/

theorem modifyTake_eq (n : Nat) (f : TakeRec → TakeRec) (takes : List TakeRec) :
    modifyTake n f takes = takes.map fun t => if t.number = n then f t else t := by
  simp [modifyTake]

theorem mem_modifyTake {n : Nat} {f : TakeRec → TakeRec} {takes : List TakeRec} {x : TakeRec} :
    x ∈ modifyTake n f takes ↔ ∃ y ∈ takes, (if y.number = n then f y else y) = x := by
  rw [modifyTake_eq, List.mem_map]

/-- What holds of the updated records and of the others holds of every record after an update. -/
theorem forall_mem_modifyTake {P : TakeRec → Prop} {n : Nat} {f : TakeRec → TakeRec} {takes : List TakeRec}
    (hedited : ∀ y ∈ takes, y.number = n → P (f y)) (hother : ∀ y ∈ takes, y.number ≠ n → P y) :
    ∀ x ∈ modifyTake n f takes, P x := by
  intro x hx
  obtain ⟨y, hy, rfl⟩ := mem_modifyTake.1 hx
  split
  · next hn => exact hedited y hy hn
  · next hn => exact hother y hy hn

theorem mem_modifyTake_of_ne {n : Nat} {f : TakeRec → TakeRec} {takes : List TakeRec} {x : TakeRec} (hx : x ∈ takes)
    (hn : x.number ≠ n) : x ∈ modifyTake n f takes := mem_modifyTake.2 ⟨x, hx, if_neg hn⟩

theorem mem_modifyTake_of_eq {n : Nat} {f : TakeRec → TakeRec} {takes : List TakeRec} {x : TakeRec} (hx : x ∈ takes)
    (hn : x.number = n) : f x ∈ modifyTake n f takes := mem_modifyTake.2 ⟨x, hx, if_pos hn⟩

theorem Tkc.inState_eq_none_iff {k : Tkc} {x : TakeState} : k.inState x = none ↔ ∀ t ∈ k.takes, t.state ≠ x := by
  simp [Tkc.inState]

theorem Tkc.inState_mem {k : Tkc} {x : TakeState} {t : TakeRec} (h : k.inState x = some t) : t ∈ k.takes :=
  List.mem_of_find?_eq_some h

theorem Tkc.inState_state {k : Tkc} {x : TakeState} {t : TakeRec} (h : k.inState x = some t) : t.state = x := by
  simpa using List.find?_some h

theorem Tkc.running_inState {k : Tkc} {t : TakeRec} (h : k.running = some t) : k.inState .opened = some t := by
  unfold Tkc.running at h
  split at h
  · next o hopen =>
    split at h
    · cases h
    · exact hopen.trans h
  · cases h

theorem Tkc.cutTake_mem {k : Tkc} {c : Nat} {t : TakeRec} (h : k.cutTake c = some t) : t ∈ k.takes :=
  List.mem_of_find?_eq_some h

/-! ## The order of the Take Table -/

/-- The clauses of `State.oneOpenTake`, read on the Take Table. -/
structure Tkc.InOrder (k : Tkc) : Prop where
  single : k.takes.countP (fun t => t.state == .opened) ≤ 1
  recording : ∀ t ∈ k.takes, t.state = .opened → k.ctl = .recording
  low : 1 ≤ k.nextTake
  high : k.nextTake ≤ 65535
  opened : ∀ t ∈ k.takes, t.state = .opened → t.number = previousTakeNumber k.nextTake
  alone : (∀ t ∈ k.takes, t.state ≠ .opened) → ∀ c ∈ k.takes, c.state = .closing →
    c.number = previousTakeNumber k.nextTake
  behind : ∀ o ∈ k.takes, o.state = .opened → ∀ c ∈ k.takes, c.state = .closing →
    c.number = previousTakeNumber o.number

theorem State.oneOpenTake_iff (s : State) : s.oneOpenTake ↔ s.tkc.InOrder := by
  constructor
  · rintro ⟨hsingle, hidle, hlow, hhigh, hopened, hclosing⟩
    refine ⟨by rwa [List.countP_eq_length_filter], fun t ht ho => ?_, hlow, hhigh, hopened, fun hnone c hc hcl => ?_,
      fun o ho hopen c hc hcl => ?_⟩
    · by_contra hctl
      exact hidle hctl t ht ho
    · rw [hclosing c hc hcl, if_pos (Tkc.inState_eq_none_iff.2 hnone)]
    · rw [hclosing c hc hcl, if_neg fun hnone => Tkc.inState_eq_none_iff.1 hnone o ho hopen, hopened o ho hopen]
  · rintro ⟨hsingle, hrecording, hlow, hhigh, hopened, halone, hbehind⟩
    refine ⟨by rwa [← List.countP_eq_length_filter], fun hctl t ht ho => hctl (hrecording t ht ho), hlow, hhigh,
      hopened, fun c hc hcl => ?_⟩
    split
    · next hnone => exact halone (Tkc.inState_eq_none_iff.1 hnone) c hc hcl
    · next hsome =>
      obtain ⟨o, ho⟩ := Option.ne_none_iff_exists'.1 hsome
      rw [hbehind o (Tkc.inState_mem ho) (Tkc.inState_state ho) c hc hcl,
        hopened o (Tkc.inState_mem ho) (Tkc.inState_state ho)]

namespace Tkc.InOrder

variable {k k' : Tkc}

/-- A table with no new live record, in which an OPEN take stays OPEN, is in order as before. -/
theorem mono (h : k.InOrder) (hctl : k'.ctl = k.ctl) (hnext : k'.nextTake = k.nextTake)
    (hsingle : k'.takes.countP (fun t => t.state == .opened) ≤ k.takes.countP (fun t => t.state == .opened))
    (hlive : ∀ x ∈ k'.takes, x.state ≠ .closed → ∃ y ∈ k.takes, y.number = x.number ∧ y.state = x.state)
    (hopen : ∀ o ∈ k.takes, o.state = .opened → ∃ x ∈ k'.takes, x.state = .opened) : k'.InOrder := by
  have hfrom : ∀ x ∈ k'.takes, ∀ z, x.state = z → z ≠ .closed → ∃ y ∈ k.takes, y.number = x.number ∧ y.state = z := by
    rintro x hx z rfl hz
    exact hlive x hx hz
  refine ⟨hsingle.trans h.single, fun t ht ho => ?_, hnext ▸ h.low, hnext ▸ h.high, fun t ht ho => ?_,
    fun hnone c hc hcl => ?_, fun o ho hoo c hc hcl => ?_⟩
  · obtain ⟨y, hy, -, hstate⟩ := hfrom t ht _ ho nofun
    exact hctl.trans (h.recording y hy hstate)
  · obtain ⟨y, hy, hnumber, hstate⟩ := hfrom t ht _ ho nofun
    rw [← hnumber, hnext, h.opened y hy hstate]
  · obtain ⟨y, hy, hnumber, hstate⟩ := hfrom c hc _ hcl nofun
    rw [← hnumber, hnext]
    refine h.alone (fun o ho hoo => ?_) y hy hstate
    obtain ⟨x, hx, hxo⟩ := hopen o ho hoo
    exact hnone x hx hxo
  · obtain ⟨y, hy, hnumber, hstate⟩ := hfrom c hc _ hcl nofun
    obtain ⟨p, hp, hpnumber, hpstate⟩ := hfrom o ho _ hoo nofun
    rw [← hnumber, ← hpnumber]
    exact h.behind p hp hpstate y hy hstate

theorem of_takes (h : k.InOrder) (htakes : k'.takes = k.takes) (hctl : k'.ctl = k.ctl)
    (hnext : k'.nextTake = k.nextTake) : k'.InOrder :=
  h.mono hctl hnext (by rw [htakes]) (fun x hx _ => ⟨x, htakes ▸ hx, rfl, rfl⟩)
    (fun o ho hoo => ⟨o, htakes ▸ ho, hoo⟩)

/-- The same table under another controller state, RECORDING where it was RECORDING. -/
theorem recording_mono (h : k.InOrder) (htakes : k'.takes = k.takes) (hnext : k'.nextTake = k.nextTake)
    (hctl : k.ctl = .recording → k'.ctl = .recording) : k'.InOrder := by
  obtain ⟨hsingle, hrecording, hlow, hhigh, hopened, halone, hbehind⟩ := h
  constructor <;> simp only [htakes, hnext]
  · exact hsingle
  · exact fun t ht hto => hctl (hrecording t ht hto)
  · exact hlow
  · exact hhigh
  · exact hopened
  · exact halone
  · exact hbehind

/-- All CLOSING records bear one number. -/
theorem closing_number_eq (h : k.InOrder) {c x : TakeRec} (hc : c ∈ k.takes) (hx : x ∈ k.takes)
    (hcstate : c.state = .closing) (hxstate : x.state = .closing) : c.number = x.number := by
  by_cases hopen : ∃ o ∈ k.takes, o.state = .opened
  · obtain ⟨o, ho, hoo⟩ := hopen
    rw [h.behind o ho hoo c hc hcstate, h.behind o ho hoo x hx hxstate]
  · have hnone : ∀ t ∈ k.takes, t.state ≠ .opened := fun t ht hto => hopen ⟨t, ht, hto⟩
    rw [h.alone hnone c hc hcstate, h.alone hnone x hx hxstate]

theorem opened_ne_closing (h : k.InOrder) {o c : TakeRec} (ho : o ∈ k.takes) (hc : c ∈ k.takes)
    (hoo : o.state = .opened) (hcc : c.state = .closing) : o.number ≠ c.number := by
  have hpos : 1 ≤ o.number := h.opened o ho hoo ▸ previousTakeNumber_pos h.low
  rw [h.behind o ho hoo c hc hcc]
  exact (previousTakeNumber_ne hpos).symm

theorem modifyTake_keep (h : k.InOrder) (n : Nat) {f : TakeRec → TakeRec}
    (hf : ∀ x, (f x).number = x.number ∧ (f x).state = x.state) :
    { k with takes := modifyTake n f k.takes }.InOrder := by
  have hsame : ∀ x : TakeRec, (if x.number = n then f x else x).number = x.number ∧
      (if x.number = n then f x else x).state = x.state := fun x => by
    split
    · exact hf x
    · exact ⟨rfl, rfl⟩
  refine h.mono rfl rfl ?_ (fun x hx _ => ?_) (fun o ho hoo => ?_)
  · simp [modifyTake_eq, List.countP_map, Function.comp_def, hsame]
  · obtain ⟨y, hy, rfl⟩ := mem_modifyTake.1 hx
    exact ⟨y, hy, (hsame y).1.symm, (hsame y).2.symm⟩
  · exact ⟨_, mem_modifyTake.2 ⟨o, ho, rfl⟩, (hsame o).2.trans hoo⟩

/-- When the CLOSING take ends, no record is CLOSING, and the OPEN take is untouched (R150). -/
theorem modifyTake_closed (h : k.InOrder) {c x : TakeRec} (hc : c ∈ k.takes) (hcc : c.state = .closing)
    (hx : x.state = .closed) :
    { k with takes := modifyTake c.number (fun _ => x) k.takes }.InOrder ∧
      ∀ y ∈ modifyTake c.number (fun _ => x) k.takes, y.state ≠ .closing := by
  refine ⟨h.mono rfl rfl ?_ (forall_mem_modifyTake (fun _ _ _ hlive => absurd hx hlive)
    fun y hy _ _ => ⟨y, hy, rfl, rfl⟩) (fun o ho hoo => ?_), forall_mem_modifyTake (fun _ _ _ => by simp [hx]) ?_⟩
  · rw [modifyTake_eq, List.countP_map]
    refine List.countP_mono_left fun y _ => ?_
    simp only [Function.comp]
    split
    · simp [hx]
    · exact id
  · exact ⟨o, mem_modifyTake_of_ne ho (h.opened_ne_closing ho hc hoo hcc), hoo⟩
  · exact fun y hy hn hyc => hn (h.closing_number_eq hy hc hyc hcc)

/-- When the OPEN take enters CLOSING with no other CLOSING, no record is OPEN (R149). -/
theorem enterClosing (h : k.InOrder) {o : TakeRec} (ho : o ∈ k.takes) (hoo : o.state = .opened)
    (hnone : ∀ c ∈ k.takes, c.state ≠ .closing) {f : TakeRec → TakeRec} (hf : ∀ x, (f x).state = .closing)
    (hnumber : ∀ x, (f x).number = x.number)
    (htakes : k'.takes = modifyTake o.number f k.takes) (hnext : k'.nextTake = k.nextTake) :
    k'.InOrder ∧ ∀ x ∈ k'.takes, x.state ≠ .opened := by
  have hopen : ∀ x ∈ k'.takes, x.state ≠ .opened := by
    rw [htakes]
    refine forall_mem_modifyTake (fun y _ _ => by simp [hf]) fun y hy hn hyo => hn ?_
    rw [h.opened y hy hyo, h.opened o ho hoo]
  have hclosing : ∀ x ∈ k'.takes, x.state = .closing → x.number = o.number := by
    rw [htakes]
    exact forall_mem_modifyTake (fun y _ hn _ => (hnumber y).trans hn) fun y hy _ hyc => absurd hyc (hnone y hy)
  refine ⟨⟨?_, fun t ht hto => absurd hto (hopen t ht), hnext ▸ h.low, hnext ▸ h.high,
    fun t ht hto => absurd hto (hopen t ht), fun _ c hc hcc => ?_, fun t ht hto => absurd hto (hopen t ht)⟩, hopen⟩
  · rw [List.countP_eq_zero.2 fun x hx => by simpa using hopen x hx]
    exact Nat.zero_le _
  · rw [hclosing c hc hcc, hnext, h.opened o ho hoo]

/-- A new OPEN take under the next number, with none OPEN before it (R138). -/
theorem create (h : k.InOrder) (hnone : ∀ t ∈ k.takes, t.state ≠ .opened) {t : TakeRec} (hopened : t.state = .opened)
    (hnumber : t.number = k.nextTake) (htakes : k'.takes = k.takes ++ [t])
    (hnext : k'.nextTake = nextTakeNumber k.nextTake) (hctl : k'.ctl = .recording) : k'.InOrder := by
  have hprevious : previousTakeNumber k'.nextTake = t.number := by
    rw [hnext, previousTakeNumber_nextTakeNumber h.low, hnumber]
  have hnew : ∀ x ∈ k'.takes, x.state = .opened → x = t := by
    intro x hx hxo
    rw [htakes, List.mem_append, List.mem_singleton] at hx
    exact hx.resolve_left fun hold => hnone x hold hxo
  have hold : ∀ x ∈ k'.takes, x.state = .closing → x ∈ k.takes := by
    intro x hx hxc
    rw [htakes, List.mem_append, List.mem_singleton] at hx
    refine hx.resolve_right ?_
    rintro rfl
    simp [hopened] at hxc
  obtain ⟨hlow, hhigh⟩ := nextTakeNumber_bounds h.high
  refine ⟨?_, fun _ _ _ => hctl, hnext ▸ hlow, hnext ▸ hhigh, fun x hx hxo => ?_, fun hopen => ?_,
    fun o ho hoo c hc hcc => ?_⟩
  · have hzero : k.takes.countP (fun t => t.state == .opened) = 0 :=
      List.countP_eq_zero.2 fun x hx => by simpa using hnone x hx
    simp [htakes, List.countP_append, hzero, hopened]
  · rw [hnew x hx hxo, hprevious]
  · exact absurd hopened (hopen t (by simp [htakes]))
  · rw [hnew o ho hoo, hnumber, h.alone hnone c (hold c hc hcc) hcc]

end Tkc.InOrder

end Sys2Proof.Machine
end

section
/-! The Take Table in order at every step: what an operation does to the order of the takes (8.2, R138, R149, R150),
from the handing of an item up to the commands. -/

namespace Sys2Proof.Machine

/-! ## What the work at the lanes leaves of the TKC: everything but the holds -/

@[simp] theorem State.setHold_tkc (s : State) (l : LaneId) (x : List Item) :
    (s.setHold l x).tkc.takes = s.tkc.takes ∧ (s.setHold l x).tkc.ctl = s.tkc.ctl ∧
    (s.setHold l x).tkc.nextTake = s.tkc.nextTake ∧ (s.setHold l x).tkc.waiting = s.tkc.waiting ∧
    (s.setHold l x).tkc.counters = s.tkc.counters ∧ (s.setHold l x).tkc.lastOpen = s.tkc.lastOpen ∧
    (s.setHold l x).tkc.lastEnd = s.tkc.lastEnd ∧ (s.setHold l x).tkc.fCut = s.tkc.fCut ∧
    (s.setHold l x).tkc.armed = s.tkc.armed ∧ (s.setHold l x).tkc.pmax = s.tkc.pmax := by
  cases l <;> simp [State.setHold]

@[simp] theorem State.handItem_tkc (s : State) (l : LaneId) (take : Option Nat) (i : Item) :
    (s.handItem l take i).tkc.takes = s.tkc.takes ∧ (s.handItem l take i).tkc.ctl = s.tkc.ctl ∧
    (s.handItem l take i).tkc.nextTake = s.tkc.nextTake ∧ (s.handItem l take i).tkc.waiting = s.tkc.waiting ∧
    (s.handItem l take i).tkc.counters = s.tkc.counters ∧ (s.handItem l take i).tkc.lastOpen = s.tkc.lastOpen ∧
    (s.handItem l take i).tkc.lastEnd = s.tkc.lastEnd ∧ (s.handItem l take i).tkc.fCut = s.tkc.fCut ∧
    (s.handItem l take i).tkc.armed = s.tkc.armed ∧ (s.handItem l take i).tkc.pmax = s.tkc.pmax := by
  unfold State.handItem
  split
  · simp
  · split <;> simp

@[simp] theorem State.openOnLane_tkc (s : State) (t : TakeRec) (l : LaneId) :
    (s.openOnLane t l).tkc.takes = s.tkc.takes ∧ (s.openOnLane t l).tkc.ctl = s.tkc.ctl ∧
    (s.openOnLane t l).tkc.nextTake = s.tkc.nextTake ∧ (s.openOnLane t l).tkc.waiting = s.tkc.waiting ∧
    (s.openOnLane t l).tkc.counters = s.tkc.counters ∧ (s.openOnLane t l).tkc.lastOpen = s.tkc.lastOpen ∧
    (s.openOnLane t l).tkc.lastEnd = s.tkc.lastEnd ∧ (s.openOnLane t l).tkc.fCut = s.tkc.fCut ∧
    (s.openOnLane t l).tkc.armed = s.tkc.armed ∧ (s.openOnLane t l).tkc.pmax = s.tkc.pmax := by
  unfold State.openOnLane
  split <;> simp

@[simp] theorem State.closeOnLane_tkc (s : State) (t : TakeRec) (l : LaneId) :
    (s.closeOnLane t l).tkc.takes = s.tkc.takes ∧ (s.closeOnLane t l).tkc.ctl = s.tkc.ctl ∧
    (s.closeOnLane t l).tkc.nextTake = s.tkc.nextTake ∧ (s.closeOnLane t l).tkc.waiting = s.tkc.waiting ∧
    (s.closeOnLane t l).tkc.counters = s.tkc.counters ∧ (s.closeOnLane t l).tkc.lastOpen = s.tkc.lastOpen ∧
    (s.closeOnLane t l).tkc.lastEnd = s.tkc.lastEnd ∧ (s.closeOnLane t l).tkc.fCut = s.tkc.fCut ∧
    (s.closeOnLane t l).tkc.armed = s.tkc.armed ∧ (s.closeOnLane t l).tkc.pmax = s.tkc.pmax := by
  unfold State.closeOnLane State.releaseHold
  split <;> simp

@[simp] theorem State.cutHold_tkc (s : State) (t : TakeRec) (newEnd : Int) (l : LaneId) :
    (s.cutHold t newEnd l).tkc.takes = s.tkc.takes ∧ (s.cutHold t newEnd l).tkc.ctl = s.tkc.ctl ∧
    (s.cutHold t newEnd l).tkc.nextTake = s.tkc.nextTake ∧ (s.cutHold t newEnd l).tkc.waiting = s.tkc.waiting ∧
    (s.cutHold t newEnd l).tkc.counters = s.tkc.counters ∧ (s.cutHold t newEnd l).tkc.lastOpen = s.tkc.lastOpen ∧
    (s.cutHold t newEnd l).tkc.lastEnd = s.tkc.lastEnd ∧ (s.cutHold t newEnd l).tkc.fCut = s.tkc.fCut ∧
    (s.cutHold t newEnd l).tkc.armed = s.tkc.armed ∧ (s.cutHold t newEnd l).tkc.pmax = s.tkc.pmax := by
  simp [State.cutHold]

/-- The TKC's side of a cut's pictures is the waiting units, the holds and a counter. -/
@[simp] theorem State.dropPictures_tkc (s : State) (t : TakeRec) (newEnd : Int) :
    (s.dropPictures t newEnd).tkc.takes = s.tkc.takes ∧ (s.dropPictures t newEnd).tkc.ctl = s.tkc.ctl ∧
    (s.dropPictures t newEnd).tkc.nextTake = s.tkc.nextTake ∧
    (s.dropPictures t newEnd).tkc.lastOpen = s.tkc.lastOpen ∧
    (s.dropPictures t newEnd).tkc.lastEnd = s.tkc.lastEnd ∧ (s.dropPictures t newEnd).tkc.fCut = s.tkc.fCut ∧
    (s.dropPictures t newEnd).tkc.armed = s.tkc.armed ∧ (s.dropPictures t newEnd).tkc.pmax = s.tkc.pmax := by
  have hcleared : ∀ gone : List Waiting, (gone.foldl State.clearWaiting
      ((s.cutHold t newEnd .a).cutHold t newEnd .b)).tkc = ((s.cutHold t newEnd .a).cutHold t newEnd .b).tkc :=
    fun gone => foldl_frame State.tkc _ (fun u w => by simp) _ _
  simp [State.dropPictures, hcleared]

/-- Room for one more record: a CLOSED record may leave (R138). -/
theorem Tkc.makeRoom_fields (k : Tkc) :
    k.makeRoom.ctl = k.ctl ∧ k.makeRoom.nextTake = k.nextTake ∧ k.makeRoom.lastOpen = k.lastOpen ∧
    k.makeRoom.armed = k.armed ∧ k.makeRoom.pmax = k.pmax ∧
    k.makeRoom.counters.started = k.counters.started ∧ k.makeRoom.holdA = k.holdA ∧ k.makeRoom.holdB = k.holdB := by
  unfold Tkc.makeRoom
  split <;> simp

theorem Tkc.makeRoom_takes (k : Tkc) : k.makeRoom.takes = k.takes ∨
    k.makeRoom.takes = k.takes.eraseP fun t => t.state == .closed := by
  unfold Tkc.makeRoom
  split
  · exact .inl rfl
  · exact .inr rfl

theorem Tkc.makeRoom_sublist (k : Tkc) : k.makeRoom.takes.Sublist k.takes := by
  obtain h | h := k.makeRoom_takes
  · rw [h]
  · rw [h]; exact List.eraseP_sublist

/-- A record that is not CLOSED stays (R138). -/
theorem Tkc.mem_makeRoom {k : Tkc} {t : TakeRec} (ht : t ∈ k.takes) (hlive : t.state ≠ .closed) :
    t ∈ k.makeRoom.takes := by
  obtain h | h := k.makeRoom_takes
  · rwa [h]
  · rw [h]; exact (List.mem_eraseP_of_neg (by simpa using hlive)).2 ht

/-! ## The TKC's operations -/

namespace State.oneOpenTake

variable {s t : State}

theorem of_takes (h : s.oneOpenTake) (htakes : t.tkc.takes = s.tkc.takes) (hctl : t.tkc.ctl = s.tkc.ctl)
    (hnext : t.tkc.nextTake = s.tkc.nextTake) : t.oneOpenTake :=
  t.oneOpenTake_iff.2 ((s.oneOpenTake_iff.1 h).of_takes htakes hctl hnext)

/-- An operation that leaves the TKC alone leaves its table in order. -/
theorem same (h : s.oneOpenTake) (htkc : t.tkc = s.tkc) : t.oneOpenTake :=
  h.of_takes (by rw [htkc]) (by rw [htkc]) (by rw [htkc])

theorem foldl {α : Type} {f : State → α → State} (hf : ∀ (u : State) a, u.oneOpenTake → (f u a).oneOpenTake)
    (l : List α) (h : s.oneOpenTake) : (l.foldl f s).oneOpenTake :=
  List.foldlRecOn l f h fun u hu a _ => hf u a hu

theorem editTake (h : s.oneOpenTake) (n : Nat) {f : TakeRec → TakeRec}
    (hf : ∀ x, (f x).number = x.number ∧ (f x).state = x.state) : (s.editTake n f).oneOpenTake :=
  (State.oneOpenTake_iff _).2 (((s.oneOpenTake_iff.1 h).modifyTake_keep n hf).of_takes rfl rfl rfl)

theorem setHold (h : s.oneOpenTake) (l : LaneId) (x : List Item) : (s.setHold l x).oneOpenTake :=
  h.of_takes (by simp) (by simp) (by simp)

theorem handItem (h : s.oneOpenTake) (l : LaneId) (take : Option Nat) (i : Item) :
    (s.handItem l take i).oneOpenTake := h.of_takes (by simp) (by simp) (by simp)

theorem setWs (h : s.oneOpenTake) (st : Stream) (w : WorkingSet) : (s.setWs st w).oneOpenTake := h.same (by simp)

theorem openOnLane (h : s.oneOpenTake) (x : TakeRec) (l : LaneId) : (s.openOnLane x l).oneOpenTake :=
  h.of_takes (by simp) (by simp) (by simp)

/-- The OPEN take enters CLOSING while none is CLOSING (R149). -/
theorem enterClosing (h : s.oneOpenTake) {o x : TakeRec} (ho : o ∈ s.tkc.takes) (hoo : o.state = .opened)
    (hx : x.number = o.number) (hnone : ∀ c ∈ s.tkc.takes, c.state ≠ .closing) :
    (s.enterClosing x).oneOpenTake ∧ ∀ y ∈ (s.enterClosing x).tkc.takes, y.state ≠ .opened := by
  obtain ⟨horder, hopen⟩ := (s.oneOpenTake_iff.1 h).enterClosing (k' := (s.enterClosing x).tkc)
    (f := fun y => { y with state := .closing, reason := x.stopPending, stopPending := none })
    ho hoo hnone (fun _ => rfl) (fun _ => rfl) (by rw [← hx]; rfl) rfl
  exact ⟨(State.oneOpenTake_iff _).2 horder, hopen⟩

theorem promote (h : s.oneOpenTake) (hnone : ∀ c ∈ s.tkc.takes, c.state ≠ .closing) : s.promote.oneOpenTake := by
  unfold State.promote
  split
  · next o ho =>
    split
    · exact (h.enterClosing (Tkc.inState_mem ho) (Tkc.inState_state ho) rfl hnone).1
    · exact h
  · exact h

theorem closeTake (h : s.oneOpenTake) {c : TakeRec} (hc : c ∈ s.tkc.takes) (hcc : c.state = .closing) :
    (s.closeTake c).oneOpenTake := by
  obtain ⟨horder, hnone⟩ := (s.oneOpenTake_iff.1 h).modifyTake_closed (x := c.closeRec) hc hcc rfl
  have hclosed : ∀ x ∈ modifyTake c.number (fun _ => c.closeRec) s.tkc.takes, x.state ≠ .closing := hnone
  unfold State.closeTake
  dsimp only
  refine promote ?_ (by simpa [State.editTake] using hclosed)
  have hedit : (s.editTake c.number fun _ => c.closeRec).oneOpenTake := (State.oneOpenTake_iff _).2 horder
  exact hedit.of_takes (by simp) (by simp) (by simp)

theorem closeIfDone (h : s.oneOpenTake) : s.closeIfDone.oneOpenTake := by
  unfold State.closeIfDone
  split
  · exact h
  · next c hc =>
    split
    · exact h
    · exact h.closeTake (Tkc.inState_mem hc) (Tkc.inState_state hc)

theorem testClosing (h : s.oneOpenTake) : s.testClosing.oneOpenTake := h.closeIfDone.closeIfDone

theorem handUnit (h : s.oneOpenTake) (st : Stream) (source : Nat) (toA toB : Bool) (take : Option Nat) :
    (s.handUnit st source toA toB take).oneOpenTake := by
  have hhand : ∀ {u : State} (b : Bool) (l : LaneId), u.oneOpenTake →
      (if b then u.handItem l take (.unit st source) else u).oneOpenTake := by
    intro u b l hu
    cases b
    · exact hu
    · exact hu.handItem ..
  have hlanes := hhand toB .b (hhand toA .a h)
  unfold State.handUnit
  dsimp only
  split
  · exact hlanes
  · refine testClosing (hlanes.editTake _ fun x => ?_)
    cases st <;> exact ⟨rfl, rfl⟩

theorem addGap (h : s.oneOpenTake) (n : Nat) : (s.addGap n).oneOpenTake := h.editTake n fun _ => ⟨rfl, rfl⟩

theorem finish (h : s.oneOpenTake) (st : Stream) (source : Nat) (x : StreamState) :
    (s.finish st source x).oneOpenTake := by
  unfold State.finish
  split
  · exact h
  · have hedit : (s.editRecord source fun r => r.withState st x).oneOpenTake := h.same (by simp)
    dsimp only
    split
    · exact hedit.same (by simp)
    · next n _ =>
      split
      · exact testClosing ((hedit.addGap n).same (by simp))
      · exact testClosing (hedit.same (by simp))

theorem handWaiting (h : s.oneOpenTake) (source : Nat) : (s.handWaiting source).oneOpenTake := by
  unfold State.handWaiting
  split
  · exact h
  · exact handUnit (h.of_takes (by rfl) (by rfl) (by rfl)) ..

theorem unitCompleted (h : s.oneOpenTake) (e : DirEntry) (st : Stream) : (s.unitCompleted e st).oneOpenTake := by
  cases st with
  | f =>
    simp only [State.unitCompleted]
    split
    · exact (h.handUnit ..).handWaiting _
    · exact h
  | p =>
    simp only [State.unitCompleted]
    split
    · split
      · exact h.handUnit ..
      · exact h.of_takes rfl rfl rfl
    · exact h.handUnit ..

theorem deliver (h : s.oneOpenTake) (take : Nat) (x : Handing) : (s.deliver take x).oneOpenTake := by
  unfold State.deliver
  split
  · exact h.handUnit ..
  · exact h.of_takes rfl rfl rfl

/-- A start outside RECORDING, where no take is OPEN (R138, R139). -/
theorem createTake (h : s.oneOpenTake) (hctl : s.tkc.ctl ≠ .recording) {x : TakeRec} (hx : x.state = .opened)
    (hnumber : x.number = s.tkc.nextTake) (clamped : Bool) : (s.createTake x clamped).oneOpenTake := by
  have horder := s.oneOpenTake_iff.1 h
  have hnone : ∀ y ∈ s.tkc.takes, y.state ≠ .opened := fun y hy hyo => hctl (horder.recording y hy hyo)
  obtain ⟨hroomctl, hroomnext, -⟩ := s.tkc.makeRoom_fields
  have hroom : s.tkc.makeRoom.InOrder := horder.mono hroomctl hroomnext
    (s.tkc.makeRoom_sublist.countP_le) (fun y hy _ => ⟨y, s.tkc.makeRoom_sublist.subset hy, rfl, rfl⟩)
    (fun o ho hoo => absurd hoo (hnone o ho))
  exact (State.oneOpenTake_iff _).2 (hroom.create (fun y hy => hnone y (s.tkc.makeRoom_sublist.subset hy)) hx
    (hnumber.trans hroomnext.symm) rfl rfl rfl)

theorem joinPreRoll (h : s.oneOpenTake) (x : TakeRec) (sources : List Nat) : (s.joinPreRoll x sources).oneOpenTake :=
  foldl (fun _ _ hu => hu.deliver ..) _ (foldl (fun _ _ hu => hu.same (by simp)) _
    (editTake (foldl (fun _ _ hu => hu.same (by simp)) _ h) _ fun _ => ⟨rfl, rfl⟩))

theorem startTake (h : s.oneOpenTake) (hctl : s.tkc.ctl ≠ .recording) (p : Nat) : (s.startTake p).oneOpenTake :=
  (((h.createTake hctl (x := s.newTake _) rfl rfl _).openOnLane ..).openOnLane ..).joinPreRoll ..

/-- The OPEN take leaves OPEN: into CLOSING only while none is CLOSING (R149). -/
theorem leaveOpen (h : s.oneOpenTake) {o : TakeRec} (ho : o ∈ s.tkc.takes) (hoo : o.state = .opened)
    (reason : EndReason) (e : Int) : (s.leaveOpen o reason e).oneOpenTake := by
  have hedit := h.editTake o.number (f := fun x => { x with e := some e, stopPending := some reason })
    fun _ => ⟨rfl, rfl⟩
  simp only [State.leaveOpen]
  split
  · exact hedit
  · next hnone =>
    have hclosing := Tkc.inState_eq_none_iff.1 hnone
    refine testClosing (hedit.enterClosing (mem_modifyTake_of_eq ho rfl) hoo rfl ?_).1
    exact forall_mem_modifyTake (fun y hy _ => hclosing y hy) fun y hy _ => hclosing y hy

theorem cut (h : s.oneOpenTake) (c : Nat) (reason : EndReason) : (s.cut c reason).oneOpenTake := by
  simp only [State.cut]
  split
  · exact h.of_takes rfl rfl rfl
  · next o ho =>
    have hmem := Tkc.cutTake_mem ho
    have hdrop : ∀ x newEnd, (State.dropPictures { s with tkc := { s.tkc with fCut := match s.tkc.fCut with
        | some x => some (max x c)
        | none => some c } } x newEnd).oneOpenTake :=
      fun x newEnd => h.of_takes (by simp) (by simp) (by simp)
    split
    · next hopen => exact (hdrop _ _).leaveOpen (by simpa using hmem) hopen.1 ..
    · exact testClosing ((hdrop _ _).editTake _ fun _ => ⟨rfl, rfl⟩)

theorem stop (h : s.oneOpenTake) {o : TakeRec} (ho : s.tkc.running = some o) (reason : EndReason) (e : Int) :
    (s.leaveOpen o reason e).oneOpenTake :=
  h.leaveOpen (Tkc.inState_mem (Tkc.running_inState ho)) (Tkc.inState_state (Tkc.running_inState ho)) reason e

theorem restartTold (h : s.oneOpenTake) (c : Option Nat) : (s.restartTold c).oneOpenTake := by
  unfold State.restartTold
  split
  · exact h.cut ..
  · split
    · next ho => exact h.stop ho ..
    · exact h

theorem dropFromTkc (h : s.oneOpenTake) (st : Stream) (source : Nat) : (s.dropFromTkc st source).oneOpenTake := by
  simp only [State.dropFromTkc]
  refine setHold ?_ ..
  split
  · exact addGap (h.of_takes rfl rfl rfl) _
  · exact h

theorem tkcOpen (h : s.oneOpenTake) (source : Nat) (kept : Bool) : (s.tkcOpen source kept).oneOpenTake := by
  have hopen : State.oneOpenTake { s with tkc := { s.tkc with lastOpen := some source } } := h.of_takes rfl rfl rfl
  simp only [State.tkcOpen]
  split
  · exact hopen
  · split
    · exact hopen
    · split
      · exact hopen.same (by simp)
      · exact hopen.same (by simp)

theorem triggerEvent (h : s.oneOpenTake) (k : TrigKind) : (s.triggerEvent k).oneOpenTake := by
  have hignored : s.ignoreTrigger.oneOpenTake := h.of_takes rfl rfl rfl
  by_cases hctl : s.tkc.ctl = .recording
  · cases hrunning : s.tkc.running with
    | none => rwa [State.triggerEvent_of_none_running hctl hrunning]
    | some o =>
      rw [State.triggerEvent_of_running hctl hrunning]
      split
      · exact hignored
      · exact h.stop hrunning ..
  · rw [State.triggerEvent_of_not_recording hctl]
    split
    · exact hignored
    · exact h.startTake hctl _

/-! ## The Proxy Scaler (chapter 3) -/

theorem loseProxy (h : s.oneOpenTake) (source : Nat) : (s.loseProxy source).oneOpenTake :=
  finish (h.same (by simp)) ..

theorem abandon (h : s.oneOpenTake) (source row : Nat) : (s.abandon source row).oneOpenTake := by
  have hps : (s.abandonPs source).oneOpenTake := h.same (by simp)
  simp only [State.abandon]
  split
  · exact hps.same (by simp)
  · exact (hps.loseProxy source).same (by simp)

theorem rowComplete (h : s.oneOpenTake) (c : Scaled) : (s.rowComplete c).oneOpenTake := by
  unfold State.rowComplete
  split
  · exact h.same rfl
  · exact h.abandon ..

theorem scalePosition (h : s.oneOpenTake) (pos : Nat) (samples : Option (List Sample)) :
    (s.scalePosition pos samples).oneOpenTake := by
  unfold State.scalePosition
  split
  · dsimp only
    split
    · exact rowComplete (h.same (by rfl)) _
    · exact h.same rfl
  all_goals exact h

theorem scaleRun (h : s.oneOpenTake) (first n : Nat) : (s.scaleRun first n).oneOpenTake := by
  induction n generalizing s first with
  | zero => exact h
  | succ n ih => exact ih (h.scalePosition ..) _

theorem tap (h : s.oneOpenTake) (e : FifoEntry) : (s.tap e).oneOpenTake := by
  cases e with
  | openE source => exact h
  | tileE pos samples => exact h.scalePosition ..
  | runE first count => exact h.scaleRun ..
  | endE => exact h.same rfl

theorem restartPs (h : s.oneOpenTake) : s.restartPs.oneOpenTake :=
  foldl (fun _ _ hu => hu.loseProxy _) _ (h.same (by simp))

/-! ## The Frame Store's work for a context (chapter 6) -/

theorem releaseForSpace (h : s.oneOpenTake) (st : Stream) (e : DirEntry) : (s.releaseForSpace st e).oneOpenTake := by
  simp only [State.releaseForSpace]
  split
  · exact dropFromTkc (h.same (by simp)) ..
  · exact h.same (by simp)

theorem walk (h : s.oneOpenTake) (st : Stream) (size n : Nat) : (s.walk st size n).oneOpenTake := by
  induction n generalizing s with
  | zero => exact h
  | succ n ih =>
    unfold State.walk
    split
    · exact h
    · split
      · exact h
      · split
        · exact h
        · exact ih (h.releaseForSpace ..)

theorem spill (h : s.oneOpenTake) (st : Stream) (source size : Nat) : (s.spill st source size).oneOpenTake := by
  have hnote : (s.noteSpill st source size).oneOpenTake := h.same (by simp)
  cases st with
  | f => exact hnote.cut ..
  | p => exact hnote

theorem completeUnit (h : s.oneOpenTake) (st : Stream) (c : Completion) : (s.completeUnit st c).oneOpenTake := by
  cases hv : (s.ringState st).reservation with
  | none => simpa only [State.completeUnit, hv] using h
  | some v =>
    cases hg : (s.tables st).ring with
    | none => simpa only [State.completeUnit, hv, hg] using h
    | some g =>
      rw [State.completeUnit_eq hv hg]
      have hentered : (s.unitEntered st c v g).oneOpenTake := h.same (by simp [State.unitEntered])
      have hstored : (s.unitStored st c v g).oneOpenTake := (hentered.unitCompleted ..).finish ..
      exact hstored.same (by simp [State.unitCounted])

/-! ## The Tile Coder and the contexts (chapter 4) -/

theorem cancelPicture (h : s.oneOpenTake) (st : Stream) (cancelled : Option Nat) :
    (s.cancelPicture st cancelled).oneOpenTake := by
  have hdiscard : (s.discardUnit st).oneOpenTake := h.same (by simp)
  unfold State.cancelPicture
  split
  · exact hdiscard.restartTold _
  · split
    · exact h
    · exact h.restartTold _
  · exact hdiscard.loseProxy _
  · exact h

theorem applyRestart (h : s.oneOpenTake) (st : Stream) (read : Option Nat) : (s.applyRestart st read).oneOpenTake := by
  have hset : (s.setCtx st ((s.ctx st).clearForRestart read (s.tables st).hasPending)).oneOpenTake := h.same (by simp)
  exact (hset.cancelPicture st (s.ws st).cancelled).same (by simp [State.applyRestart])

theorem applyAbandon (h : s.oneOpenTake) (n : Nat) : (s.applyAbandon n).oneOpenTake := by
  have hread : ∀ a, (State.loseProxy
      (State.discardUnit { s with scP := { s.scP with abandon := a } } .p) n).oneOpenTake :=
    fun a => loseProxy (h.same (by simp)) n
  unfold State.applyAbandon
  dsimp only
  generalize (if s.scP.abandon = some n then none else s.scP.abandon) = a
  split
  · exact (hread a).same (by simp)
  · exact h.same (by rfl)

theorem finishNotCoded (h : s.oneOpenTake) (st : Stream) (source : Nat) : (s.finishNotCoded st source).oneOpenTake := by
  unfold State.finishNotCoded
  split
  · split
    · exact h
    · exact h.finish ..
  · exact h

theorem passRow (h : s.oneOpenTake) (r : ProxyRow) : (s.passRow r).oneOpenTake := by
  simp only [State.passRow]
  split
  · exact finishNotCoded (h.same (by simp)) ..
  · exact h.same rfl

theorem endTurn (h : s.oneOpenTake) : s.endTurn.oneOpenTake := h.same (by simp)

theorem endEmptyTurn (h : s.oneOpenTake) : s.endEmptyTurn.oneOpenTake := by
  unfold State.endEmptyTurn
  split
  · exact h.endTurn.passRow _
  · exact h.endTurn

theorem endSpilled (h : s.oneOpenTake) (st : Stream) (source : Nat) : (s.endSpilled st source).oneOpenTake := by
  cases st <;> exact finish (h.same (by simp)) ..

theorem discardRow (h : s.oneOpenTake) (st : Stream) (p : ProfileRec) : (s.discardRow st p).oneOpenTake := by
  have hrow : State.oneOpenTake (match st with
      | .f => s.editFifo (dropPositions p.tilesAcross)
      | .p => s) := by
    cases st
    · exact h.same (by simp)
    · exact h
  unfold State.discardRow
  dsimp only
  refine endTurn ?_
  split
  · split
    · exact hrow.endSpilled ..
    · exact hrow
  · exact setWs hrow ..

theorem reserveAndStart (h : s.oneOpenTake) (st : Stream) (source : Nat) (p : ProfileRec) :
    (s.reserveAndStart st source p).oneOpenTake := by
  have hwalk := h.walk st p.granules (s.ringState st).dir.length
  simp only [State.reserveAndStart]
  split
  · exact hwalk.same (by simp)
  · exact discardRow ((hwalk.spill st source p.granules).same (by simp)) ..

theorem startPicture (h : s.oneOpenTake) (st : Stream) (source : Nat) (activate : Bool) :
    (s.startPicture st source activate).oneOpenTake := by
  have hactive : State.oneOpenTake (if activate then s.activate st source else s) := by
    split
    · exact h.same (by simp)
    · exact h
  simp only [State.startPicture]
  split
  · exact reserveAndStart (hactive.same (by simp)) ..
  all_goals exact hactive.endEmptyTurn

theorem continueF (h : s.oneOpenTake) (x : Turn) : (s.continueF x).oneOpenTake := by
  have hstart : State.oneOpenTake (match s.ti.fifo with
      | .openE source :: rest => (s.editFifo fun _ => rest).startPicture .f source x.activate
      | .tileE .. :: _ | .runE .. :: _ | .endE .. :: _ | [] => s.endEmptyTurn) := by
    split
    · exact startPicture (h.same (by simp)) ..
    all_goals exact h.endEmptyTurn
  unfold State.continueF
  split
  · exact hstart
  · exact hstart
  · exact h
  · split
    · exact h.discardRow ..
    · exact h.endEmptyTurn

theorem continueP (h : s.oneOpenTake) (x : Turn) : (s.continueP x).oneOpenTake := by
  have hstart : ∀ r : ProxyRow, State.oneOpenTake
      (if r.row = 0 then s.startPicture .p r.source x.activate else s.endEmptyTurn) := by
    intro r
    split
    · exact h.startPicture ..
    · exact h.endEmptyTurn
  unfold State.continueP
  split
  · exact h.endEmptyTurn
  · split
    · exact hstart _
    · exact hstart _
    · split
      · exact h
      · exact h.endEmptyTurn
    · split
      · split
        · exact h.discardRow ..
        · exact h.endEmptyTurn
      · exact h.endEmptyTurn

theorem startTurn (h : s.oneOpenTake) (x : Turn) : (s.startTurn x).oneOpenTake := by
  have hrestart : State.oneOpenTake (if x.restart then s.applyRestart x.stream x.abandon else s) := by
    split
    · exact h.applyRestart ..
    · exact h
  unfold State.startTurn
  dsimp only
  generalize (if x.restart then s.applyRestart x.stream x.abandon else s) = u at hrestart ⊢
  have habandon : State.oneOpenTake (match x.abandon with
      | some n => if x.restart then u else u.applyAbandon n
      | none => u) := by
    split
    · split
      · exact hrestart
      · exact hrestart.applyAbandon _
    · exact hrestart
  split
  · exact habandon.continueF _
  · exact habandon.continueP _

theorem arbiterChoice (h : s.oneOpenTake) : s.arbiterChoice.oneOpenTake := by
  unfold State.arbiterChoice State.giveTurn
  split
  · dsimp only
    split
    · exact h.same (by rfl)
    · exact startTurn (h.same (by rfl)) _
  all_goals exact h

theorem handOver (h : s.oneOpenTake) : s.handOver.oneOpenTake := by
  unfold State.handOver
  split
  · exact h
  · split
    · exact startTurn (h.same (by simp)) _
    · exact h

theorem endPicture (h : s.oneOpenTake) (st : Stream) (source : Nat) (p : ProfileRec) :
    (s.endPicture st source p).oneOpenTake := by
  cases st <;> exact completeUnit (h.same (by simp)) ..

theorem endRow (h : s.oneOpenTake) (x : Turn) (p : ProfileRec) : (s.endRow x p).oneOpenTake := by
  have hrow : ∀ w, ((s.writeRow x.stream p.rows x.rowBytes).setWs x.stream w).oneOpenTake :=
    fun w => h.same (by simp)
  unfold State.endRow
  dsimp only
  refine endTurn ?_
  split
  · split
    · exact (hrow _).endPicture ..
    · exact hrow _
  · exact hrow _

theorem codePiece (h : s.oneOpenTake) (x : Turn) (p : ProfileRec) (y : Piece) : (s.codePiece x p y).oneOpenTake := by
  cases hst : x.stream with
  | f =>
    simp only [State.codePiece, hst]
    split
    · exact endRow (h.same (by simp)) ..
    · exact h.same (by simp)
  | p =>
    simp only [State.codePiece, hst]
    split
    · exact endRow (h.same (by simp)) ..
    · exact h.same (by simp)

theorem codeTile (h : s.oneOpenTake) : s.codeTile.oneOpenTake := by
  unfold State.codeTile
  split
  · exact h
  · split
    · exact h
    · split
      · exact h.codePiece ..
      all_goals exact h

theorem passByEntry (h : s.oneOpenTake) : s.passByEntry.oneOpenTake := by
  have hrest : ∀ f, (s.editFifo f).oneOpenTake := fun f => h.same (by simp)
  unfold State.passByEntry
  split
  · exact h
  · split
    · dsimp only
      split
      · exact finishNotCoded (h.same (by simp)) ..
      all_goals exact hrest _
    · exact h

theorem passByRow (h : s.oneOpenTake) : s.passByRow.oneOpenTake := by
  unfold State.passByRow
  split
  · exact h
  · split
    · exact passRow (h.same (by rfl)) _
    · exact h

theorem postRestart (h : s.oneOpenTake) (st : Stream) (d : Directive) : (s.postRestart st d).oneOpenTake := by
  have hpost : ∀ {u : State}, u.oneOpenTake → State.oneOpenTake
      (if (((u.keepReply st d).setCtx st { (u.keepReply st d).ctx st with restart := true }).ws st).state = .inactive
        then ((u.keepReply st d).setCtx st { (u.keepReply st d).ctx st with restart := true }).applyRestartInactive st
        else (u.keepReply st d).setCtx st { (u.keepReply st d).ctx st with restart := true }) := by
    intro u hu
    split
    · exact hu.same (by simp)
    · exact hu.same (by simp)
  cases st with
  | f => exact hpost h
  | p => exact hpost h.restartPs

theorem restartDirective (h : s.oneOpenTake) : s.restartDirective.oneOpenTake := by
  have htaken : (s.countTaken .restart).oneOpenTake := h.same (by simp)
  have hposted : ∀ st d, ((s.countTaken .restart).postRestart st d).popDirective.oneOpenTake :=
    fun st d => (htaken.postRestart st d).same (by simp)
  unfold State.restartDirective
  split
  · exact h
  · split
    · exact h
    · split
      · exact h.same (by simp)
      · split
        · exact htaken.same (by simp)
        · exact hposted ..

/-! ## The Tile Intake (chapter 2) -/

theorem appendEntry (h : s.oneOpenTake) (e : FifoEntry) : (s.appendEntry e).oneOpenTake := tap (h.same (by rfl)) e

theorem appendEnd (h : s.oneOpenTake) : s.appendEnd.oneOpenTake := by
  unfold State.appendEnd
  split
  · exact h.appendEntry _
  · exact h.appendEntry _

theorem truncate (h : s.oneOpenTake) : s.truncate.oneOpenTake := by
  unfold State.truncate
  split
  · exact (appendEntry (h.same (by simp)) _).appendEnd
  · exact h

theorem endIfLast (h : s.oneOpenTake) (position : Nat) : (s.endIfLast position).oneOpenTake := by
  unfold State.endIfLast
  split
  · exact h.appendEnd.same rfl
  · exact h

theorem appendTile (h : s.oneOpenTake) (position : Nat) (samples : List Sample) :
    (s.appendTile position samples).oneOpenTake :=
  endIfLast ((h.appendEntry (.tileE position samples)).same (by rfl)) position

theorem coverGap (h : s.oneOpenTake) (position : Nat) : (s.coverGap position).oneOpenTake :=
  appendEntry (h.same (by simp)) _

theorem placeTile (h : s.oneOpenTake) (position : Nat) (samples : List Sample) :
    (s.placeTile position samples).oneOpenTake := by
  have hlost : s.loseTile.oneOpenTake := h.same (by simp)
  unfold State.placeTile
  split
  · exact h.same (by simp)
  · split
    · split
      · exact h.appendTile ..
      · exact hlost
    · split
      · exact (h.coverGap _).appendTile ..
      · exact hlost

theorem currentTile (h : s.oneOpenTake) (position : Nat) (samples : List Sample) :
    (s.currentTile position samples).oneOpenTake := by
  unfold State.currentTile
  split
  · split
    · exact h.same (by simp)
    · exact placeTile (h.same (by simp)) ..
  · split <;> exact h.same (by simp)
  · exact h.same (by simp)
  · exact h

theorem admitPicture (h : s.oneOpenTake) (source : Nat) (linkSeq : BitVec 16) (openLost : Bool) (d : Decision) :
    (s.admitPicture source linkSeq openLost d).oneOpenTake := by
  cases d with
  | kept tiles => exact h.same rfl
  | noProfile => exact h.same (by simp [State.admitPicture])
  | geometry w h' => exact h.same (by simp [State.admitPicture])
  | capacity r => exact h.same (by simp [State.admitPicture])

theorem openEvent (h : s.oneOpenTake) (source : Nat) (kept : Bool) : (s.openEvent source kept).oneOpenTake := by
  unfold State.openEvent
  dsimp only
  have hcount : ∀ u : State, u.oneOpenTake → ((u.countOpen .a).countOpen .b).oneOpenTake :=
    fun _ hu => hu.same (by simp)
  exact hcount _ (tkcOpen (h.same (by simp)) source kept)

theorem openPicture (h : s.oneOpenTake) (linkSeq : BitVec 16) (dims : Option (Nat × Nat)) (openLost : Bool) :
    (s.openPicture linkSeq dims openLost).oneOpenTake := by
  unfold State.openPicture
  dsimp only
  exact openEvent (admitPicture (h.truncate.same (by rfl)) ..) ..

theorem takeOpen (h : s.oneOpenTake) (linkSeq seqCopy w h' : BitVec 16) :
    (s.takeOpen linkSeq seqCopy w h').oneOpenTake := by
  have hheader : s.goodHeader.oneOpenTake := h.same (by simp)
  simp only [State.takeOpen]
  split
  · exact hheader.same (by simp)
  · split
    · exact hheader.openPicture ..
    · exact hheader.same (by simp)
    · exact hheader.same (by simp)

theorem takeTile (h : s.oneOpenTake) (linkSeq position : BitVec 16) (bytes : List Byte) :
    (s.takeTile linkSeq position bytes).oneOpenTake := by
  have hheader : s.goodHeader.oneOpenTake := h.same (by simp)
  simp only [State.takeTile]
  split
  · exact hheader.same (by simp)
  · split
    · exact currentTile (openPicture (hheader.same (by simp)) ..) ..
    · exact hheader.currentTile ..
    · exact hheader.same (by simp)

/-! ## The trigger line and the resets -/

theorem trigEdge (h : s.oneOpenTake) (rising : Bool) : (s.trigEdge rising).oneOpenTake := by
  simp only [State.trigEdge]
  split
  · exact h
  · split
    · exact triggerEvent (h.same (by rfl)) _
    · exact h.same (by rfl)

/-- Behind a reset the Take Table is empty (R158). -/
theorem of_reset (h : t.tkc = {}) : t.oneOpenTake := State.reset_oneOpenTake.same h

/-- What the owner of a directive keeps in order, its execution keeps in order. -/
theorem execute {k : DirKind} {owner : Directive → State → Taken} (h : s.oneOpenTake)
    (howner : ∀ d u, u.oneOpenTake → (owner d u).state.oneOpenTake) : (s.execute k owner).oneOpenTake :=
  State.execute_induction (P := State.oneOpenTake) h (fun _ _ _ _ hu => hu.same (by simp))
    (fun d => howner d _ (h.same (by simp)))

end State.oneOpenTake

end Sys2Proof.Machine
end

section
/-! Every command keeps the Take Table in order (8.2, R138, R149, R150). -/

namespace Sys2Proof.Machine

/-! ## The owners of the directives that reach the TKC -/

section owners

variable (d : Directive) {s : State} (h : s.oneOpenTake)
include h

/-- ARM leaves RECORDING in RECORDING (R135). -/
theorem ownArm_oneOpenTake : (ownArm d s).state.oneOpenTake := by
  refine (State.oneOpenTake_iff _).2 ((s.oneOpenTake_iff.1 h).recording_mono rfl rfl fun hctl => ?_)
  simp [ownArm, hctl]

theorem ownDisarm_oneOpenTake : (ownDisarm d s).state.oneOpenTake := by
  have hidle : s.tkc.ctl ≠ .recording →
      State.oneOpenTake { s with tkc := { s.tkc with armed := false, ctl := .idle } } := fun hctl =>
    (State.oneOpenTake_iff _).2
      ((s.oneOpenTake_iff.1 h).recording_mono rfl rfl fun hrecording => absurd hrecording hctl)
  unfold ownDisarm
  split
  · exact h
  · next hctl => exact hidle (by simp [hctl])
  · next hctl => exact hidle (by simp [hctl])

theorem ownStart_oneOpenTake : (ownStart d s).state.oneOpenTake := by
  unfold ownStart
  split
  · exact h
  · next hctl => exact h.startTake (by simp [hctl]) _
  · next hctl => exact h.startTake (by simp [hctl]) _

theorem ownStop_oneOpenTake : (ownStop d s).state.oneOpenTake := by
  unfold ownStop
  split
  · exact h
  · exact h
  · split
    · exact h
    · next ho => exact h.stop ho ..

theorem ownMark_oneOpenTake : (ownMark d s).state.oneOpenTake := by
  unfold ownMark
  split
  · exact h
  · split
    · exact h
    · split
      · exact h.editTake _ fun _ => ⟨rfl, rfl⟩
      · next o _ _ =>
        have hcounted := h.editTake o.number (f := fun x => { x with refused := x.refused + 1 }) fun _ => ⟨rfl, rfl⟩
        exact hcounted.of_takes rfl rfl rfl

/-- CLEAR TAKES takes no live record (R155). -/
theorem ownClearTakes_oneOpenTake : (ownClearTakes d s).state.oneOpenTake := by
  refine (State.oneOpenTake_iff _).2 ((s.oneOpenTake_iff.1 h).mono rfl rfl (List.filter_sublist.countP_le)
    (fun x hx _ => ⟨x, List.mem_of_mem_filter hx, rfl, rfl⟩) fun o ho hoo => ⟨o, List.mem_filter.2 ⟨ho, ?_⟩, hoo⟩)
  simp [hoo]

theorem ownQuery_oneOpenTake : (ownQuery d s).state.oneOpenTake := by
  have hclear : ∀ g, (s.clearGroup g).oneOpenTake := fun g => by cases g <;> exact h.of_takes rfl rfl rfl
  unfold ownQuery
  split
  · exact h
  · dsimp only
    split
    · exact hclear _
    · exact h

end owners

theorem ownReset_oneOpenTake (d : Directive) (s : State) : (ownReset d s).state.oneOpenTake :=
  .of_reset (by simp only [ownReset, State.resetPlane_eq]; rfl)

/-! ## The owners that leave the TKC alone -/

section owners

variable (d : Directive) (s : State)

theorem ownLoadProfile_tkc : (ownLoadProfile d s).state.tkc = s.tkc := by
  unfold ownLoadProfile State.loadF State.loadP refuse
  (repeat' split) <;> simp

theorem ownLoadLadder_tkc : (ownLoadLadder d s).state.tkc = s.tkc := by
  simp only [ownLoadLadder]
  (repeat' split) <;> simp [refuse]

theorem ownSetRing_tkc : (ownSetRing d s).state.tkc = s.tkc := by
  simp only [ownSetRing]
  (repeat' split) <;> simp [refuse]

theorem ownSetLanes_tkc : (ownSetLanes d s).state.tkc = s.tkc := by
  unfold ownSetLanes
  (repeat' split) <;> simp [refuse]

theorem ownSetLaneBFeed_tkc : (ownSetLaneBFeed d s).state.tkc = s.tkc := by
  unfold ownSetLaneBFeed
  (repeat' split) <;> simp [refuse]

theorem ownSetTrigger_tkc : (ownSetTrigger d s).state.tkc = s.tkc := by
  unfold ownSetTrigger
  split <;> rfl

theorem ownSetTimecode_tkc : (ownSetTimecode d s).state.tkc = s.tkc := by
  simp only [ownSetTimecode]
  (repeat' split) <;> simp [refuse]

theorem ownJam_tkc : (ownJam d s).state.tkc = s.tkc := by
  simp only [ownJam]
  (repeat' split) <;> rfl

theorem ownReadTake_tkc : (ownReadTake d s).state.tkc = s.tkc := by
  unfold ownReadTake
  split <;> rfl

end owners

/-! ## The commands -/

theorem exec_oneOpenTake (c : Instr) {s : State} (h : s.oneOpenTake) : ∃ t, exec c s = .next t ∧ t.oneOpenTake := by
  have hsame : ∀ {k : DirKind} {owner : Directive → State → Taken}, (∀ d u, (owner d u).state.tkc = u.tkc) →
      (s.execute k owner).oneOpenTake := fun howner => h.execute fun d u hu => hu.same (howner d u)
  cases c with
  | resetLine trigHigh => exact ⟨_, rfl, .of_reset rfl⟩
  | headerFailure => exact ⟨_, rfl, h.same (by simp)⟩
  | badPacket cause => exact ⟨_, rfl, h.same (by simp)⟩
  | openPacket linkSeq seqCopy w h' => exact ⟨_, rfl, h.takeOpen ..⟩
  | tilePacket linkSeq position bytes => exact ⟨_, rfl, h.takeTile ..⟩
  | closePacket linkSeq count => exact ⟨_, rfl, h.same (by simp)⟩
  | directivePacket classByte code tag args => exact ⟨_, rfl, h.same (by simp)⟩
  | fillPacket => exact ⟨_, rfl, h.same (by simp)⟩
  | refPulse => exact ⟨_, rfl, h.same (by simp)⟩
  | refLost => exact ⟨_, rfl, h.same (by simp)⟩
  | trigEdge rising => exact ⟨_, rfl, h.trigEdge rising⟩
  | creditPulse lane => exact ⟨_, rfl, h.same (by simp)⟩
  | laneStall lane => exact ⟨_, rfl, h.same (by simp)⟩
  | lanePacketSent lane => exact ⟨_, rfl, h.same (by simp)⟩
  | arbiterChoice => exact ⟨_, rfl, h.arbiterChoice⟩
  | handOver => exact ⟨_, rfl, h.handOver⟩
  | codeTile => exact ⟨_, rfl, h.codeTile⟩
  | passByEntry => exact ⟨_, rfl, h.passByEntry⟩
  | passByRow => exact ⟨_, rfl, h.passByRow⟩
  | loadProfile => exact ⟨_, rfl, hsame ownLoadProfile_tkc⟩
  | loadLadder => exact ⟨_, rfl, hsame ownLoadLadder_tkc⟩
  | setRing => exact ⟨_, rfl, hsame ownSetRing_tkc⟩
  | setLanes => exact ⟨_, rfl, hsame ownSetLanes_tkc⟩
  | setLaneBFeed => exact ⟨_, rfl, hsame ownSetLaneBFeed_tkc⟩
  | setTrigger => exact ⟨_, rfl, hsame ownSetTrigger_tkc⟩
  | setTimecode => exact ⟨_, rfl, hsame ownSetTimecode_tkc⟩
  | jam => exact ⟨_, rfl, hsame ownJam_tkc⟩
  | arm => exact ⟨_, rfl, h.execute fun d _ hu => ownArm_oneOpenTake d hu⟩
  | disarm => exact ⟨_, rfl, h.execute fun d _ hu => ownDisarm_oneOpenTake d hu⟩
  | start => exact ⟨_, rfl, h.execute fun d _ hu => ownStart_oneOpenTake d hu⟩
  | stop => exact ⟨_, rfl, h.execute fun d _ hu => ownStop_oneOpenTake d hu⟩
  | mark => exact ⟨_, rfl, h.execute fun d _ hu => ownMark_oneOpenTake d hu⟩
  | query => exact ⟨_, rfl, h.execute fun d _ hu => ownQuery_oneOpenTake d hu⟩
  | readTake => exact ⟨_, rfl, hsame ownReadTake_tkc⟩
  | clearTakes => exact ⟨_, rfl, h.execute fun d _ hu => ownClearTakes_oneOpenTake d hu⟩
  | restart => exact ⟨_, rfl, h.restartDirective⟩
  | reset => exact ⟨_, rfl, h.execute fun d u _ => ownReset_oneOpenTake d u⟩
  | unknownDirective =>
    simp only [exec, execUnknownDirective]
    split
    · exact ⟨_, rfl, h⟩
    · split
      · exact ⟨_, rfl, h⟩
      · exact ⟨_, rfl, h.same (by simp)⟩

/-- Settles O11: every command keeps the Take Table in order, and a step is a command's execution or changes nothing. -/
theorem oneTakeIsOpenOnlyWhileRecording : Obligations.OneTakeIsOpenOnlyWhileRecording := by
  intro s t hs h
  unfold step at h
  split at h
  · cases h
    exact hs
  · next c rest _ =>
    have hqueue : State.oneOpenTake { s with pending := rest } := hs.same rfl
    obtain ⟨u, hu, horder⟩ := exec_oneOpenTake c hqueue
    cases hu.symm.trans h
    exact horder

end Sys2Proof.Machine
end

section
/-! The directives of the TKC that are no start and no stop: ARM and DISARM (R135, R136), READ TAKE and CLEAR TAKES
(R155), MARK (R156). -/

namespace Sys2Proof.Machine

/-! ## ARM and DISARM (R135, R136) -/

/-- What is retained while the TKC is armed: source numbers above the newest less Pmax (R108). -/
theorem State.retained_of_armed {s : State} {n : Nat} (harmed : s.tkc.armed = true) (hnewest : s.fsc.newest = some n)
    (e : DirEntry) : s.retained e = decide (n < e.source + s.tkc.pmax) := by
  simp [State.retained, harmed, hnewest]

theorem State.retained_of_disarmed {s : State} (h : s.tkc.armed = false) (e : DirEntry) : s.retained e = false := by
  simp [State.retained, h]

theorem ownArm_eq (d : Directive) (s : State) : ownArm d s =
    ⟨{ s with tkc := { s.tkc with
        pmax := min (fieldAt d.args 0 2) 1024
        armed := true
        ctl := if s.tkc.ctl = .recording then .recording else .caching } },
      if 1024 < fieldAt d.args 0 2 then .doneClamped else .done, .armed (min (fieldAt d.args 0 2) 1024)⟩ := by
  have hcode : (if fieldAt d.args 0 2 ≤ 1024 then ReplyCode.done else .doneClamped) =
      if 1024 < fieldAt d.args 0 2 then .doneClamped else .done := by
    simp only [← Nat.not_le, ite_not]
  unfold ownArm
  dsimp only
  rw [hcode]
  cases s.tkc.ctl <;> rfl

theorem ownDisarm_of_recording (d : Directive) {s : State} (h : s.tkc.ctl = .recording) :
    ownDisarm d s = refuse s .refusedBusy := by simp only [ownDisarm, h]

theorem ownDisarm_of_not_recording (d : Directive) {s : State} (h : s.tkc.ctl ≠ .recording) :
    ownDisarm d s = ⟨{ s with tkc := { s.tkc with armed := false, ctl := .idle } }, .done, .none⟩ := by
  cases hctl : s.tkc.ctl with
  | recording => exact absurd hctl h
  | idle => simp only [ownDisarm, hctl]
  | caching => simp only [ownDisarm, hctl]

/-- Settles O42. -/
theorem armAndDisarmSetTheRetention : Obligations.ArmAndDisarmSetTheRetention := by
  refine ⟨fun s d rest hacc => ?arm, fun s d rest hacc => ⟨fun hctl => ?busy, fun hctl => ?disarm⟩⟩
  case arm =>
    refine ⟨_, State.next_of_taken hacc (ownArm_eq d _), rfl, fun e n hnewest => ?_, fun q => ?_, ?_⟩
    · exact State.retained_of_armed (by simp) (by simpa using hnewest) e |>.trans (by simp)
    · simp [Tkc.clampPreRoll]
    · simp [Tkc.afterTake]
  case busy => exact State.next_of_refused hacc (ownDisarm_of_recording d (by simpa using hctl))
  case disarm =>
    exact ⟨_, State.next_of_taken hacc (ownDisarm_of_not_recording d (by simpa using hctl)), rfl,
      State.retained_of_disarmed (by simp)⟩

/-! ## READ TAKE and CLEAR TAKES (R155) -/

theorem ownReadTake_of_some {d : Directive} {s : State} {t : TakeRec}
    (h : (s.tkc.takes.find? fun t => decide (t.number = fieldAt d.args 0 2)) = some t) :
    ownReadTake d s = ⟨s, .done, .take t⟩ := by
  have hfound : s.tkc.take (fieldAt d.args 0 2) = some t := by simpa [Tkc.take, beq_eq_decide] using h
  simp only [ownReadTake, hfound]

theorem ownReadTake_of_none {d : Directive} {s : State} (h : ∀ t ∈ s.tkc.takes, t.number ≠ fieldAt d.args 0 2) :
    ownReadTake d s = refuse s .refusedRange := by
  have hnone : s.tkc.take (fieldAt d.args 0 2) = none := List.find?_eq_none.2 fun t ht => by simpa using h t ht
  simp only [ownReadTake, hnone]

theorem ownClearTakes_eq (d : Directive) (s : State) : ownClearTakes d s =
    ⟨{ s with tkc := { s.tkc with takes := s.tkc.takes.filter fun t => decide (t.state ≠ .closed) } }, .done,
      .cleared (s.tkc.takes.filter fun t => decide (t.state = .closed)).length⟩ := by
  simp only [ownClearTakes, bne, beq_eq_decide, decide_not]

/-- Settles O46. -/
theorem takeRecordsAreReadAndCleared : Obligations.TakeRecordsAreReadAndCleared := fun _ d _ =>
  ⟨fun hacc => State.next_of_taken hacc (ownClearTakes_eq d _),
    fun hacc => ⟨fun _ ht => State.next_of_taken hacc (ownReadTake_of_some ht),
      fun hnone => State.next_of_refused hacc (ownReadTake_of_none hnone)⟩⟩

/-! ## MARK (R156) -/

/-- The mark entries stand behind the 64 bytes of a take's layout (Table 11-10). -/
theorem TakeRec.layout_marks (t : TakeRec) (first reason last : Nat) :
    ∃ front : List Byte, front.length = 64 ∧ t.layout first reason last = front ++ t.marks.flatMap Mark.bytes := by
  have hlabel : ∀ l : Option Label, (optLabelBytes l).length = 4 := fun l => by
    cases l <;> simp [optLabelBytes, labelBytes]
  have hend : (endBytes (t.e.getD 0)).length = 6 := by
    unfold endBytes
    split <;> simp [sourceBytes]
  refine ⟨_, ?_, rfl⟩
  simp only [List.length_append, be_length, sourceBytes, hlabel, hend]

section
variable {s : State} {d : Directive} {o : TakeRec}

theorem ownMark_of_zero (h : fieldAt d.args 0 1 = 0) : ownMark d s = refuse s .refusedRange := if_pos h

theorem ownMark_of_no_take (hcode : fieldAt d.args 0 1 ≠ 0) (h : s.tkc.inState .opened = none) :
    ownMark d s = refuse s .refusedState := by
  simp only [ownMark, if_neg hcode, h]

/-- A seventeenth mark is counted in the take and by the TKC (R156). -/
theorem ownMark_of_full (hcode : fieldAt d.args 0 1 ≠ 0) (ho : s.tkc.inState .opened = some o)
    (h : 16 ≤ o.marks.length) : ownMark d s = refuse { s with tkc := { s.tkc with
      takes := s.tkc.takes.map fun x => if x.number = o.number then { x with refused := x.refused + 1 } else x
      counters := { s.tkc.counters with marksRefused := bump s.tkc.counters.marksRefused } } } .refusedFull := by
  simp only [ownMark, if_neg hcode, ho, if_neg (Nat.not_lt.2 h), State.editTake, modifyTake_eq]

theorem ownMark_of_room (hcode : fieldAt d.args 0 1 ≠ 0) (ho : s.tkc.inState .opened = some o)
    (h : o.marks.length < 16) : ownMark d s = ⟨{ s with tkc := { s.tkc with
      takes := s.tkc.takes.map fun x => if x.number = o.number then
        { x with marks := x.marks ++ [⟨fieldAt d.args 0 1, d.cls, s.tcu.lastOpen.map LastOpen.source,
          (s.tcu.lastOpen.map LastOpen.label).getD s.tcu.freeRun⟩] } else x } },
      .done, .marked o.number (o.marks.length + 1)⟩ := by
  have hmark : s.newMark d = ⟨fieldAt d.args 0 1, d.cls, s.tcu.lastOpen.map LastOpen.source,
      (s.tcu.lastOpen.map LastOpen.label).getD s.tcu.freeRun⟩ := by
    unfold State.newMark
    cases s.tcu.lastOpen <;> rfl
  simp only [ownMark, if_neg hcode, ho, if_pos h, State.editTake, modifyTake_eq, hmark]

end

/-- Settles O45. -/
theorem markJoinsTheOpenTake : Obligations.MarkJoinsTheOpenTake :=
  ⟨fun r => r.layout_marks .., fun _ _ _ hacc => ⟨fun hcode => State.next_of_refused hacc (ownMark_of_zero hcode),
    fun hcode hnone => State.next_of_refused hacc (ownMark_of_no_take hcode hnone),
    fun _ hcode ho => ⟨fun hfull => State.next_of_taken hacc (ownMark_of_full hcode ho hfull),
      fun hroom => State.next_of_taken hacc (ownMark_of_room hcode ho hroom)⟩⟩⟩

end Sys2Proof.Machine
end

section
/-! A lane's list (R146 to R148, R160, R161): what an append leaves of it, and what stays in it; the holds behind it. -/

namespace Sys2Proof.Machine

/-! ## The side of a lane sender that the choice of a packet leaves alone -/

/-- A lane sender's list, with what the list has taken in: the unannounced take, the take whose TAKE OPEN it holds, the
last unit. -/
def LaneSender.listSide (x : LaneSender) : LaneSender :=
  { items := x.items, unannounced := x.unannounced, openTake := x.openTake, lastUnit := x.lastUnit }

theorem LaneSender.items_of_listSide {x y : LaneSender} (h : x.listSide = y.listSide) : x.items = y.items := by
  have hitems : x.listSide.items = y.listSide.items := congrArg LaneSender.items h
  exact hitems

theorem LaneSender.unannounced_of_listSide {x y : LaneSender} (h : x.listSide = y.listSide) :
    x.unannounced = y.unannounced := by
  have hunannounced : x.listSide.unannounced = y.listSide.unannounced := congrArg LaneSender.unannounced h
  exact hunannounced

theorem LaneSender.startReport_listSide (x : LaneSender) : x.startReport.listSide = x.listSide := by
  unfold LaneSender.startReport
  split <;> rfl

theorem LaneSender.enqueue_listSide (x : LaneSender) (c : Nat) (r : Report) :
    (x.enqueue c r).listSide = x.listSide := by
  unfold LaneSender.enqueue
  split
  · exact LaneSender.startReport_listSide _
  · rfl

theorem State.lane_setLane_ne (s : State) {l l' : LaneId} (h : l' ≠ l) (x : LaneSender) :
    (s.setLane l x).lane l' = s.lane l' := by
  cases l with
  | a => cases l' with
    | a => exact absurd rfl h
    | b => rfl
  | b => cases l' with
    | a => rfl
    | b => exact absurd rfl h

theorem State.setLane_listSide {s : State} {l : LaneId} {x : LaneSender} (h : x.listSide = (s.lane l).listSide)
    (l' : LaneId) : ((s.setLane l x).lane l').listSide = (s.lane l').listSide := by
  by_cases hl : l' = l
  · subst hl
    rw [State.lane_setLane, h]
  · rw [State.lane_setLane_ne s hl]

theorem State.notify_listSide (s : State) (n : Notice) (l : LaneId) :
    ((s.notify n).lane l).listSide = (s.lane l).listSide :=
  State.setLane_listSide (LaneSender.enqueue_listSide ..) l

theorem State.startSegment_listSide (s : State) (l : LaneId) (st : Stream) (source : Nat) (l' : LaneId) :
    ((s.startSegment l st source).lane l').listSide = (s.lane l').listSide := by
  have hread : ∀ r e i g, (((s.setLane l ((s.lane l).sendSegment l g)).countRead r e i).lane l').listSide =
      (s.lane l').listSide := fun r e i g => by
    rw [← State.setLane_listSide (s := s) (l := l) (x := (s.lane l).sendSegment l g) rfl l']
    cases l' <;> rfl
  have hfault : ∀ (t : State) k, ((t.raiseFault l st k).lane l').listSide = (t.lane l').listSide := fun t k => by
    rw [State.raiseFault, State.notify_listSide]
    cases l' <;> simp
  unfold State.startSegment
  split
  · dsimp only
    split
    · split
      · exact hread ..
      · rw [hfault, hread]
    · exact hread ..
  · rfl

theorem State.choose_listSide (s : State) (l l' : LaneId) :
    ((s.choose l).lane l').listSide = (s.lane l').listSide := by
  unfold State.choose
  split
  · rfl
  · split
    · exact State.setLane_listSide (LaneSender.startReport_listSide _) l'
    · split
      · rfl
      · exact State.setLane_listSide (by rfl) l'
      · split
        · rfl
        · exact s.startSegment_listSide ..

theorem State.chooseIfHeadChanged_listSide (s : State) (l : LaneId) (before : Option Item) (l' : LaneId) :
    ((s.chooseIfHeadChanged l before).lane l').listSide = (s.lane l').listSide := by
  unfold State.chooseIfHeadChanged
  split
  · rfl
  · exact s.choose_listSide ..

/-! ## Appends (R160) -/

@[simp] theorem State.clearNeeds_lane (s : State) (l : LaneId) (items : List Item) (l' : LaneId) :
    (s.clearNeeds l items).lane l' = s.lane l' := by cases l' <;> simp

@[simp] theorem State.setHold_lane (s : State) (l : LaneId) (x : List Item) (l' : LaneId) :
    (s.setHold l x).lane l' = s.lane l' := by cases l' <;> simp

theorem State.pushItem_listSide (s : State) (l : LaneId) (i : Item) :
    ((s.pushItem l i).lane l).listSide = { (s.lane l).listSide with items := (s.lane l).items ++ [i] } := by
  unfold State.pushItem
  dsimp only
  split
  · rw [State.choose_listSide, State.lane_setLane]; rfl
  · rw [State.lane_setLane]; rfl

theorem State.pushItem_items (s : State) (l : LaneId) (i : Item) :
    ((s.pushItem l i).lane l).items = (s.lane l).items ++ [i] := by
  have hitems := congrArg LaneSender.items (s.pushItem_listSide l i)
  exact hitems

theorem State.pushItem_listSide_ne (s : State) {l l' : LaneId} (h : l' ≠ l) (i : Item) :
    ((s.pushItem l i).lane l').listSide = (s.lane l').listSide := by
  unfold State.pushItem
  dsimp only
  split
  · rw [State.choose_listSide, State.lane_setLane_ne s h]
  · rw [State.lane_setLane_ne s h]

theorem LaneSender.dropOldest_sublist (x : LaneSender) (k : Nat) (items : List Item) :
    (x.dropOldest k items).Sublist items := by
  induction items generalizing k with
  | nil => simp [LaneSender.dropOldest]
  | cons i rest ih =>
    cases k with
    | zero => simp [LaneSender.dropOldest]
    | succ k =>
      unfold LaneSender.dropOldest
      split
      · exact (ih k).cons i
      · exact (ih (k + 1)).cons_cons i

/-- The drop of the oldest unsent units takes no marker (R168). -/
theorem LaneSender.marker_mem_dropOldest (x : LaneSender) (k : Nat) {items : List Item} {m : Marker}
    (h : .marker m ∈ items) : .marker m ∈ x.dropOldest k items := by
  induction items generalizing k with
  | nil => exact h
  | cons i rest ih =>
    cases k with
    | zero => simpa only [LaneSender.dropOldest] using h
    | succ k =>
      unfold LaneSender.dropOldest
      split
      · next hunsent =>
        rcases List.mem_cons.1 h with rfl | h
        · simp [LaneSender.unsent] at hunsent
        · exact ih k h
      · rcases List.mem_cons.1 h with rfl | h
        · exact List.mem_cons_self
        · exact List.mem_cons_of_mem _ (ih (k + 1) h)

/-- The backlog test reaches Lane B's list alone, from which it takes the oldest unsent units (R168). -/
theorem State.backlogTest_lane (s : State) :
    (s.backlogTest.lane .a).listSide = (s.lane .a).listSide ∧
    ∃ k, (s.backlogTest.lane .b).listSide =
      { (s.lane .b).listSide with items := s.lsB.dropOldest k (s.lane .b).items } := by
  have hnone : ∀ x : LaneSender, x.listSide = { x.listSide with items := x.dropOldest 0 x.items } := fun x => by
    cases hitems : x.items <;> simp [LaneSender.dropOldest, LaneSender.listSide, hitems]
  unfold State.backlogTest
  dsimp only
  split
  · exact ⟨rfl, 0, hnone s.lsB⟩
  · refine ⟨(State.chooseIfHeadChanged_listSide ..).trans ?_, s.lsB.backlog - s.prs.lanes.bmax,
      (State.chooseIfHeadChanged_listSide ..).trans ?_⟩
    · exact congrArg LaneSender.listSide (s.clearNeeds_lane .b _ .a)
    · have hcleared : ∀ items, (s.clearNeeds .b items).lsB = s.lsB := fun items => s.clearNeeds_lane .b items .b
      simp only [State.lane_b, hcleared]
      rfl

/-- An append to a lane leaves the other lane's list as it was. -/
theorem State.push_listSide_ne (s : State) {l l' : LaneId} (h : l' ≠ l) (i : Item) :
    ((s.push l i).lane l').listSide = (s.lane l').listSide := by
  have hset : ∀ (x : LaneSender) (i : Item), (((s.setLane l x).pushItem l i).lane l').listSide = (s.lane l').listSide :=
    fun x i => by rw [State.pushItem_listSide_ne _ h, State.lane_setLane_ne s h]
  cases i with
  | unit st source =>
    cases l with
    | a => exact s.pushItem_listSide_ne h _
    | b =>
      have hl' : l' = .a := by cases l' <;> simp_all
      subst hl'
      simp only [State.push, State.pushUnit]
      split
      · exact (State.backlogTest_lane _).1.trans (hset ..)
      · rw [State.clearNeeds_lane]
  | marker m =>
    unfold State.push State.pushMarker
    dsimp only
    split
    · split
      · exact hset ..
      · rw [State.lane_setLane_ne s h]
    · split
      · rw [State.lane_setLane_ne s h]
      · exact hset ..

theorem State.pushAll_listSide_ne (s : State) {l l' : LaneId} (h : l' ≠ l) (items : List Item) :
    ((s.pushAll l items).lane l').listSide = (s.lane l').listSide := by
  induction items generalizing s with
  | nil => rfl
  | cons i rest ih => exact (ih _).trans (s.push_listSide_ne h i)

theorem State.closeOnLane_listSide_ne (s : State) (t : TakeRec) {l l' : LaneId} (h : l' ≠ l) :
    ((s.closeOnLane t l).lane l').listSide = (s.lane l').listSide := by
  unfold State.closeOnLane State.releaseHold
  split
  · rw [State.pushAll_listSide_ne _ h, State.setHold_lane]
    exact s.push_listSide_ne h (.marker (.takeClose t))
  · rfl

/-! ## Markers (R146, R147, R160) -/

section
variable {s : State} {l : LaneId}

theorem State.pushMarker_takeOpen {n s0 first pActual : Nat} {mode : TcMode} (h : markerCount (s.lane l).items ≤ 126) :
    ((s.pushMarker l (.takeOpen n s0 first pActual mode)).lane l).listSide = { (s.lane l).listSide with
      openTake := some n, items := (s.lane l).items ++ [.marker (.takeOpen n s0 first pActual mode)] } := by
  unfold State.pushMarker
  dsimp only
  rw [if_pos h, State.pushItem_listSide, State.lane_setLane]
  rfl

theorem State.pushMarker_takeClose {t : TakeRec} (h : (s.lane l).unannounced ≠ some t.number) :
    ((s.pushMarker l (.takeClose t)).lane l).listSide = { (s.lane l).listSide with
      openTake := none, items := (s.lane l).items ++ [.marker (.takeClose t)] } := by
  unfold State.pushMarker
  dsimp only
  rw [if_neg h, State.pushItem_listSide, State.lane_setLane]
  rfl

end

/-! ## What stays in a list (R160, R168): a marker, and on Lane A a unit -/

/-- An item that no append takes out of a lane's list. -/
def Item.Stays (l : LaneId) : Item → Prop
  | .unit _ _ => l = .a
  | .marker _ => True

section
variable {s : State} {l' : LaneId} {j : Item}

theorem State.backlogTest_stays (hj : j.Stays l') (h : j ∈ (s.lane l').items) : j ∈ (s.backlogTest.lane l').items := by
  obtain ⟨ha, k, hb⟩ := s.backlogTest_lane
  cases l' with
  | a => rwa [LaneSender.items_of_listSide ha]
  | b =>
    have hitems := congrArg LaneSender.items hb
    have hdropped : (s.backlogTest.lane .b).items = s.lsB.dropOldest k (s.lane .b).items := hitems
    cases j with
    | unit st source => exact nomatch hj
    | marker m =>
      rw [hdropped]
      exact LaneSender.marker_mem_dropOldest _ k h

theorem State.push_stays (l : LaneId) (i : Item) (hj : j.Stays l') (h : j ∈ (s.lane l').items) :
    j ∈ ((s.push l i).lane l').items := by
  by_cases hl : l' = l
  · subst hl
    have hpushed : ∀ (x : LaneSender) (i : Item), x.items = (s.lane l').items →
        j ∈ (((s.setLane l' x).pushItem l' i).lane l').items := fun x i hx => by
      rw [State.pushItem_items, State.lane_setLane, hx]
      exact List.mem_append_left _ h
    cases i with
    | unit st source =>
      cases l' with
      | a =>
        simp only [State.push, State.pushUnit, State.pushItem_items]
        exact List.mem_append_left _ h
      | b =>
        simp only [State.push, State.pushUnit]
        split
        · exact State.backlogTest_stays hj (hpushed _ _ rfl)
        · rwa [State.clearNeeds_lane]
    | marker m =>
      unfold State.push State.pushMarker
      dsimp only
      split
      · split
        · exact hpushed _ _ rfl
        · rwa [State.lane_setLane]
      · split
        · rwa [State.lane_setLane]
        · exact hpushed _ _ rfl
  · rwa [LaneSender.items_of_listSide (s.push_listSide_ne hl i)]

theorem State.pushAll_stays (l : LaneId) (items : List Item) (hj : j.Stays l') (h : j ∈ (s.lane l').items) :
    j ∈ ((s.pushAll l items).lane l').items := by
  induction items generalizing s with
  | nil => exact h
  | cons i rest ih => exact ih (State.push_stays l i hj h)

theorem State.handItem_stays (l : LaneId) (take : Option Nat) (i : Item) (hj : j.Stays l')
    (h : j ∈ (s.lane l').items) : j ∈ ((s.handItem l take i).lane l').items := by
  unfold State.handItem
  split
  · exact State.push_stays l i hj h
  · split
    · exact State.push_stays l i hj h
    · rwa [State.setHold_lane]

theorem State.closeOnLane_stays (t : TakeRec) (l : LaneId) (hj : j.Stays l') (h : j ∈ (s.lane l').items) :
    j ∈ ((s.closeOnLane t l).lane l').items := by
  unfold State.closeOnLane State.releaseHold
  split
  · refine State.pushAll_stays l _ hj ?_
    rw [State.setHold_lane]
    exact State.push_stays l (.marker (.takeClose t)) hj h
  · exact h

end

/-- TAKE CLOSE stands in each announced lane of the take's lane set, with the hold behind it (R147). -/
theorem State.closeOnLane_takeClose {s : State} {t : TakeRec} {l : LaneId} (hlane : t.onLane l = true)
    (hannounced : (s.lane l).unannounced ≠ some t.number) :
    .marker (.takeClose t) ∈ ((s.closeOnLane t l).lane l).items := by
  unfold State.closeOnLane State.releaseHold
  rw [if_pos hlane]
  refine State.pushAll_stays l _ trivial ?_
  have hitems := congrArg LaneSender.items (State.pushMarker_takeClose hannounced)
  have hpushed : ((s.pushMarker l (.takeClose t)).lane l).items = (s.lane l).items ++ [.marker (.takeClose t)] := hitems
  rw [State.setHold_lane, hpushed]
  exact List.mem_append_right _ List.mem_cons_self

/-! ## A unit handed to Lane A, in its list or in its hold (R142, R148) -/

/-- An item has been handed to Lane A. -/
def State.HandedA (s : State) (i : Item) : Prop := i ∈ s.lsA.items ∨ i ∈ s.tkc.holdA

section
variable {s : State} {st : Stream} {n : Nat}

/-- All units of a list are in Lane A's list behind their append. -/
theorem State.pushAll_units (items : List Item) (h : .unit st n ∈ items) :
    .unit st n ∈ ((s.pushAll .a items).lane .a).items := by
  induction items generalizing s with
  | nil => exact nomatch h
  | cons i rest ih =>
    rcases List.mem_cons.1 h with rfl | h
    · refine State.pushAll_stays .a rest rfl ?_
      simp only [State.push, State.pushUnit, State.pushItem_items]
      exact List.mem_append_right _ List.mem_cons_self
    · exact ih h

theorem State.HandedA.of_hold {t : State} (hitems : .unit st n ∈ s.lsA.items → .unit st n ∈ t.lsA.items)
    (hhold : t.tkc.holdA = s.tkc.holdA) (h : s.HandedA (.unit st n)) : t.HandedA (.unit st n) :=
  h.imp hitems fun hh => hhold ▸ hh

theorem State.HandedA.handItem (h : s.HandedA (.unit st n)) (l : LaneId) (take : Option Nat) (i : Item) :
    (s.handItem l take i).HandedA (.unit st n) := by
  refine h.imp (State.handItem_stays (l' := .a) l take i rfl) fun hh => ?_
  unfold State.handItem
  split
  · simpa using hh
  · split
    · simpa using hh
    · cases l with
      | a => exact List.mem_append_left _ hh
      | b => exact hh

theorem State.HandedA.closeOnLane (h : s.HandedA (.unit st n)) (t : TakeRec) (l : LaneId) :
    (s.closeOnLane t l).HandedA (.unit st n) := by
  rcases h with hlist | hhold
  · exact .inl (State.closeOnLane_stays (l' := .a) t l rfl hlist)
  · unfold State.closeOnLane State.releaseHold
    split
    · cases l with
      | a => exact .inl (State.pushAll_units _ (by simpa [State.hold] using hhold))
      | b => exact .inr (by simpa [State.setHold] using hhold)
    · exact .inr hhold

/-- Handed to Lane A, an item of a take goes into its list or its hold (R148). -/
theorem State.handItem_handedA (s : State) (take : Option Nat) (st : Stream) (n : Nat) :
    (s.handItem .a take (.unit st n)).HandedA (.unit st n) := by
  have hpushed : .unit st n ∈ (s.push .a (.unit st n)).lsA.items := by
    have hitems := s.pushItem_items .a (.unit st n)
    have hlast : .unit st n ∈ ((s.pushItem .a (.unit st n)).lane .a).items := by
      rw [hitems]
      exact List.mem_append_right _ List.mem_cons_self
    exact hlast
  unfold State.handItem
  split
  · exact .inl hpushed
  · split
    · exact .inl hpushed
    · exact .inr (List.mem_append_right _ List.mem_cons_self)

end

end Sys2Proof.Machine
end

section
/-! The closing of takes (R147 to R151): what it writes of the Take Table, the directories and the holds. -/

namespace Sys2Proof.Machine

/-! ## The close of a take in its parts (R150) -/

/-- A take closed and counted, before its lanes are told. -/
def State.recordClosed (s : State) (t : TakeRec) : State :=
  { s.editTake t.number fun _ => t.closeRec with tkc :=
    { (s.editTake t.number fun _ => t.closeRec).tkc with counters := s.tkc.counters.countClosed t.finalReason } }

/-- A take closed, counted and announced on its lanes, before another take follows it into CLOSING. -/
def State.announcedClosed (s : State) (t : TakeRec) : State :=
  ((s.recordClosed t).closeOnLane t.closeRec .a).closeOnLane t.closeRec .b

theorem State.closeTake_eq (s : State) (t : TakeRec) : s.closeTake t = (s.announcedClosed t).promote := rfl

@[simp] theorem State.announcedClosed_tkc (s : State) (t : TakeRec) :
    (s.announcedClosed t).tkc.takes = modifyTake t.number (fun _ => t.closeRec) s.tkc.takes ∧
    (s.announcedClosed t).tkc.ctl = s.tkc.ctl ∧ (s.announcedClosed t).tkc.nextTake = s.tkc.nextTake ∧
    (s.announcedClosed t).tkc.waiting = s.tkc.waiting ∧ (s.announcedClosed t).tkc.lastOpen = s.tkc.lastOpen ∧
    (s.announcedClosed t).tkc.lastEnd = s.tkc.lastEnd ∧ (s.announcedClosed t).tkc.fCut = s.tkc.fCut ∧
    (s.announcedClosed t).tkc.armed = s.tkc.armed ∧ (s.announcedClosed t).tkc.pmax = s.tkc.pmax ∧
    (s.announcedClosed t).tkc.counters.started = s.tkc.counters.started := by
  have hstarted : (s.tkc.counters.countClosed t.finalReason).started = s.tkc.counters.started := by
    cases t.finalReason <;> rfl
  simp [State.announcedClosed, State.recordClosed, State.editTake, hstarted]

theorem State.closeIfDone_of_none {s : State} (h : s.tkc.inState .closing = none) : s.closeIfDone = s := by
  simp only [State.closeIfDone, h]

theorem State.closeIfDone_of_unfinished {s : State} {t : TakeRec} (ht : s.tkc.inState .closing = some t)
    (h : s.unfinished t.number = true) : s.closeIfDone = s := by
  simp only [State.closeIfDone, ht, if_pos h]

theorem State.closeIfDone_of_done {s : State} {t : TakeRec} (ht : s.tkc.inState .closing = some t)
    (h : s.unfinished t.number = false) : s.closeIfDone = (s.announcedClosed t).promote := by
  simp only [State.closeIfDone, ht, h, Bool.false_eq_true, if_false, State.closeTake_eq]

theorem State.promote_of_pending {s : State} {o : TakeRec} {r : EndReason} (ho : s.tkc.inState .opened = some o)
    (hr : o.stopPending = some r) : s.promote = s.enterClosing o := by
  simp only [State.promote, ho, hr, Option.isSome_some, if_true]

theorem State.promote_of_none_pending {s : State} (h : ∀ o, s.tkc.inState .opened = some o → o.stopPending = none) :
    s.promote = s := by
  unfold State.promote
  split
  · next o ho => rw [h o ho]; rfl
  · rfl

/-- An end of the CLOSING take is one close, or nothing. -/
theorem State.closeIfDone_cases (s : State) : s.closeIfDone = s ∨
    ∃ t, s.tkc.inState .closing = some t ∧ s.closeIfDone = (s.announcedClosed t).promote := by
  cases ht : s.tkc.inState .closing with
  | none => exact .inl (State.closeIfDone_of_none ht)
  | some t =>
    cases hdone : s.unfinished t.number with
    | true => exact .inl (State.closeIfDone_of_unfinished ht hdone)
    | false => exact .inr ⟨t, rfl, State.closeIfDone_of_done ht hdone⟩

/-- What one close keeps, and the entry of a take into CLOSING, the end of a CLOSING take keeps. -/
theorem State.closeIfDone_induction {P : State → Prop} {s : State} (hs : P s)
    (hclose : ∀ u t, u.tkc.inState .closing = some t → P u → P (u.announcedClosed t))
    (hpromote : ∀ u, P u → P u.promote) : P s.closeIfDone := by
  obtain hsame | ⟨t, ht, hclosed⟩ := s.closeIfDone_cases
  · rwa [hsame]
  · rw [hclosed]
    exact hpromote _ (hclose s t ht hs)

theorem State.testClosing_induction {P : State → Prop} {s : State} (hs : P s)
    (hclose : ∀ u t, u.tkc.inState .closing = some t → P u → P (u.announcedClosed t))
    (hpromote : ∀ u, P u → P u.promote) : P s.testClosing :=
  State.closeIfDone_induction (State.closeIfDone_induction hs hclose hpromote) hclose hpromote

@[simp] theorem State.promote_tkc (s : State) :
    s.promote.tkc.nextTake = s.tkc.nextTake ∧ s.promote.tkc.waiting = s.tkc.waiting ∧
    s.promote.tkc.lastOpen = s.tkc.lastOpen ∧ s.promote.tkc.fCut = s.tkc.fCut ∧ s.promote.tkc.armed = s.tkc.armed ∧
    s.promote.tkc.pmax = s.tkc.pmax ∧ s.promote.tkc.counters = s.tkc.counters ∧ s.promote.tkc.holdA = s.tkc.holdA ∧
    s.promote.tkc.holdB = s.tkc.holdB := by
  unfold State.promote State.enterClosing State.editTake
  split
  · split <;> simp
  · simp

/-- The close of takes leaves the TKC's own registers as they were: the numbers, the waiting units, the cuts and the
count of starts. -/
@[simp] theorem State.testClosing_tkc (s : State) :
    s.testClosing.tkc.nextTake = s.tkc.nextTake ∧ s.testClosing.tkc.waiting = s.tkc.waiting ∧
    s.testClosing.tkc.lastOpen = s.tkc.lastOpen ∧ s.testClosing.tkc.fCut = s.tkc.fCut ∧
    s.testClosing.tkc.armed = s.tkc.armed ∧ s.testClosing.tkc.pmax = s.tkc.pmax ∧
    s.testClosing.tkc.counters.started = s.tkc.counters.started :=
  State.testClosing_induction (P := fun u => u.tkc.nextTake = s.tkc.nextTake ∧ u.tkc.waiting = s.tkc.waiting ∧
      u.tkc.lastOpen = s.tkc.lastOpen ∧ u.tkc.fCut = s.tkc.fCut ∧ u.tkc.armed = s.tkc.armed ∧
      u.tkc.pmax = s.tkc.pmax ∧ u.tkc.counters.started = s.tkc.counters.started)
    ⟨rfl, rfl, rfl, rfl, rfl, rfl, rfl⟩ (fun u t _ hu => by simpa using hu) (fun u hu => by simpa using hu)

/-! ## The records (R149, R150) -/

/-- A record that enters CLOSING with the stop pending of the OPEN take `o` (R149). -/
def TakeRec.promoted (x o : TakeRec) : TakeRec :=
  { x with state := .closing, reason := o.stopPending, stopPending := none }

theorem State.enterClosing_takes (s : State) (o : TakeRec) :
    (s.enterClosing o).tkc.takes = modifyTake o.number (fun x => x.promoted o) s.tkc.takes := rfl

/-- What holds of a record through its close and its entry into CLOSING. -/
structure TakeRec.KeptByClosing (Q : TakeRec → Prop) : Prop where
  close : ∀ x, x.state = .closing → Q x → Q x.closeRec
  promote : ∀ o x, o.state = .opened → Q o → Q x → x.number = o.number → Q (x.promoted o)

section
variable {Q : TakeRec → Prop} {s : State}

theorem State.announcedClosed_takes (hQ : TakeRec.KeptByClosing Q) {t : TakeRec}
    (ht : s.tkc.inState .closing = some t) (h : ∀ x ∈ s.tkc.takes, Q x) :
    ∀ x ∈ (s.announcedClosed t).tkc.takes, Q x := by
  have hclosed : Q t.closeRec := hQ.close t (Tkc.inState_state ht) (h t (Tkc.inState_mem ht))
  simp only [State.announcedClosed_tkc]
  exact forall_mem_modifyTake (fun _ _ _ => hclosed) fun y hy _ => h y hy

theorem State.promote_takes (hQ : TakeRec.KeptByClosing Q) (h : ∀ x ∈ s.tkc.takes, Q x) :
    ∀ x ∈ s.promote.tkc.takes, Q x := by
  unfold State.promote
  split
  · next o ho =>
    split
    · rw [State.enterClosing_takes]
      exact forall_mem_modifyTake
        (fun y hy hn => hQ.promote o y (Tkc.inState_state ho) (h o (Tkc.inState_mem ho)) (h y hy) hn)
        fun y hy _ => h y hy
    · exact h
  · exact h

theorem State.closeIfDone_takes (hQ : TakeRec.KeptByClosing Q) (h : ∀ x ∈ s.tkc.takes, Q x) :
    ∀ x ∈ s.closeIfDone.tkc.takes, Q x :=
  State.closeIfDone_induction (P := fun u => ∀ x ∈ u.tkc.takes, Q x) h
    (fun _ _ ht hu => State.announcedClosed_takes hQ ht hu) fun _ hu => State.promote_takes hQ hu

theorem State.testClosing_takes (hQ : TakeRec.KeptByClosing Q) (h : ∀ x ∈ s.tkc.takes, Q x) :
    ∀ x ∈ s.testClosing.tkc.takes, Q x := State.closeIfDone_takes hQ (State.closeIfDone_takes hQ h)

end

/-- The take in a state, when an update reaches no record in that state and puts none into it. -/
theorem Tkc.inState_modifyTake {k k' : Tkc} {n : Nat} {f : TakeRec → TakeRec} {x : TakeState}
    (h : k'.takes = modifyTake n f k.takes)
    (hf : ∀ y ∈ k.takes, y.number = n → y.state ≠ x ∧ (f y).state ≠ x) : k'.inState x = k.inState x := by
  have hlist : ∀ takes : List TakeRec, (∀ y ∈ takes, y.number = n → y.state ≠ x ∧ (f y).state ≠ x) →
      (modifyTake n f takes).find? (fun t => t.state == x) = takes.find? (fun t => t.state == x) := by
    intro takes hf
    induction takes with
    | nil => rfl
    | cons y rest ih =>
      have hrest := ih fun z hz => hf z (List.mem_cons_of_mem _ hz)
      rw [modifyTake_eq] at hrest ⊢
      by_cases hn : y.number = n
      · obtain ⟨hy, hfy⟩ := hf y List.mem_cons_self hn
        simp [hn, hy, hfy, hrest]
      · simp [List.find?_cons, hn, hrest]
  unfold Tkc.inState
  rw [h]
  exact hlist _ hf

/-- The close of the CLOSING take leaves the OPEN take as it was. -/
theorem State.oneOpenTake.inState_announcedClosed {s : State} {t : TakeRec} (h : s.oneOpenTake)
    (ht : s.tkc.inState .closing = some t) :
    (s.announcedClosed t).tkc.inState .opened = s.tkc.inState .opened := by
  have hother : ∀ y ∈ s.tkc.takes, y.number = t.number → y.state ≠ .opened := fun y hy hn hyo =>
    (s.oneOpenTake_iff.1 h).opened_ne_closing hy (Tkc.inState_mem ht) hyo (Tkc.inState_state ht) hn
  exact Tkc.inState_modifyTake (State.announcedClosed_tkc s t).1 fun y hy hn => ⟨hother y hy hn, nofun⟩

/-- A close leaves no record CLOSING, and the OPEN take stays. -/
theorem State.oneOpenTake.announcedClosed {s : State} {t : TakeRec} (h : s.oneOpenTake)
    (ht : s.tkc.inState .closing = some t) :
    (s.announcedClosed t).oneOpenTake ∧ (s.announcedClosed t).tkc.inState .closing = none := by
  obtain ⟨horder, hnone⟩ := (s.oneOpenTake_iff.1 h).modifyTake_closed (x := t.closeRec) (Tkc.inState_mem ht)
    (Tkc.inState_state ht) rfl
  have hclosed : (s.editTake t.number fun _ => t.closeRec).oneOpenTake := (State.oneOpenTake_iff _).2 horder
  exact ⟨hclosed.of_takes (by simp [State.editTake]) (by simp [State.editTake]) (by simp [State.editTake]),
    Tkc.inState_eq_none_iff.2 (by simpa using hnone)⟩

theorem State.testClosing_of_unfinished {s : State} {t : TakeRec} (ht : s.tkc.inState .closing = some t)
    (h : s.unfinished t.number = true) : s.testClosing = s := by
  rw [State.testClosing, State.closeIfDone_of_unfinished ht h, State.closeIfDone_of_unfinished ht h]

/-- With no take OPEN the end of a CLOSING take does not move the last end or the controller (R149). -/
theorem State.closeIfDone_of_no_open {s : State} (h : ∀ x ∈ s.tkc.takes, x.state ≠ .opened) :
    s.closeIfDone.tkc.lastEnd = s.tkc.lastEnd ∧ s.closeIfDone.tkc.ctl = s.tkc.ctl := by
  obtain hsame | ⟨t, ht, hclosed⟩ := s.closeIfDone_cases
  · rw [hsame]
    exact ⟨rfl, rfl⟩
  · have hnone : (s.announcedClosed t).tkc.inState .opened = none := Tkc.inState_eq_none_iff.2 (by
      rw [(State.announcedClosed_tkc s t).1]
      exact forall_mem_modifyTake (fun _ _ _ => nofun) fun y hy _ => h y hy)
    rw [hclosed, State.promote_of_none_pending fun o ho => absurd (hnone.symm.trans ho) nofun]
    simp

/-- With no stop pending the end of the CLOSING take ends the test. -/
theorem State.testClosing_of_done {s : State} {t : TakeRec} (h : s.oneOpenTake)
    (ht : s.tkc.inState .closing = some t) (hdone : s.unfinished t.number = false)
    (hstop : ∀ o, s.tkc.inState .opened = some o → o.stopPending = none) : s.testClosing = s.announcedClosed t := by
  have hpromote : (s.announcedClosed t).promote = s.announcedClosed t :=
    State.promote_of_none_pending fun o ho => hstop o (h.inState_announcedClosed ht ▸ ho)
  rw [State.testClosing, State.closeIfDone_of_done ht hdone, hpromote,
    State.closeIfDone_of_none (h.announcedClosed ht).2]

/-! ## The lists and the holds -/

theorem State.announcedClosed_stays {s : State} {l : LaneId} {j : Item} (t : TakeRec) (hj : j.Stays l)
    (h : j ∈ (s.lane l).items) : j ∈ ((s.announcedClosed t).lane l).items := by
  refine State.closeOnLane_stays _ .b hj (State.closeOnLane_stays _ .a hj ?_)
  cases l <;> exact h

theorem State.promote_lane (s : State) (l : LaneId) : s.promote.lane l = s.lane l := by
  cases l <;> simp

theorem State.closeIfDone_stays {s : State} {l : LaneId} {j : Item} (hj : j.Stays l) (h : j ∈ (s.lane l).items) :
    j ∈ (s.closeIfDone.lane l).items :=
  State.closeIfDone_induction (P := fun u => j ∈ (u.lane l).items) h
    (fun _ t _ hu => State.announcedClosed_stays t hj hu) fun u hu => by rwa [u.promote_lane]

theorem State.testClosing_stays {s : State} {l : LaneId} {j : Item} (hj : j.Stays l) (h : j ∈ (s.lane l).items) :
    j ∈ (s.testClosing.lane l).items := State.closeIfDone_stays hj (State.closeIfDone_stays hj h)

/-- TAKE CLOSE stands in each announced lane of the take's lane set (R147, R150). -/
theorem State.announcedClosed_takeClose {s : State} {t : TakeRec} {l : LaneId} (hlane : t.onLane l = true)
    (hannounced : (s.lane l).unannounced ≠ some t.number) :
    .marker (.takeClose t.closeRec) ∈ ((s.announcedClosed t).lane l).items := by
  have hclose : t.closeRec.onLane l = true := by cases l <;> exact hlane
  cases l with
  | a => exact State.closeOnLane_stays _ .b trivial (State.closeOnLane_takeClose hclose hannounced)
  | b =>
    refine State.closeOnLane_takeClose hclose ?_
    rw [LaneSender.unannounced_of_listSide (State.closeOnLane_listSide_ne _ _ (by decide))]
    exact hannounced

theorem State.HandedA.testClosing {s : State} {st : Stream} {n : Nat} (h : s.HandedA (.unit st n)) :
    s.testClosing.HandedA (.unit st n) :=
  State.testClosing_induction (P := fun u => u.HandedA (.unit st n)) h
    (fun u t _ hu => (State.HandedA.closeOnLane (s := u.recordClosed t) hu t.closeRec .a).closeOnLane t.closeRec .b)
    fun u hu => hu.of_hold (by simp) (by simp)

/-- A hold only empties when takes close (R148). -/
theorem State.testClosing_hold (s : State) (l : LaneId) : s.testClosing.hold l ⊆ s.hold l := by
  have hclose : ∀ (u : State) t l', (u.closeOnLane t l').hold l ⊆ u.hold l := by
    intro u t l'
    unfold State.closeOnLane State.releaseHold
    split
    · cases l <;> cases l' <;> simp [State.hold, State.setHold]
    · exact List.Subset.refl _
  refine State.testClosing_induction (P := fun u => u.hold l ⊆ s.hold l) (List.Subset.refl _)
    (fun u t _ hu => ?_) fun u hu => ?_
  · refine List.Subset.trans (List.Subset.trans (hclose _ _ _) (hclose _ _ _)) ?_
    cases l <;> exact hu
  · cases l <;> simpa [State.hold] using hu

end Sys2Proof.Machine
end

section
/-! The entries of the directories (R107, R114, R152, R168): what holds of every entry through the flags and needs that
the work at the lanes writes. -/

namespace Sys2Proof.Machine

/-- A property of entries through the fault-reported flags set and the needs cleared at the lanes (R114, R168). -/
structure DirEntry.KeptByLanes (Q : Stream → DirEntry → Prop) : Prop where
  fault : ∀ st e l, Q st e → Q st (e.markFault l)
  need : ∀ st e l, Q st e → Q st (e.clearNeed l)

/-- Every entry of both directories has a property. -/
structure State.AllEntries (Q : Stream → DirEntry → Prop) (s : State) : Prop where
  of_mem : ∀ st, ∀ e ∈ (s.ringState st).dir, Q st e

theorem forall_mem_modifyEntry {P : DirEntry → Prop} {n : Nat} {f : DirEntry → DirEntry} {dir : List DirEntry}
    (hedited : ∀ e ∈ dir, e.source = n → P (f e)) (hother : ∀ e ∈ dir, e.source ≠ n → P e) :
    ∀ e ∈ modifyEntry n f dir, P e := by
  intro e he
  obtain ⟨x, hx, rfl⟩ := List.mem_map.1 he
  by_cases hn : x.source = n
  · simpa [hn] using hedited x hx hn
  · simpa [hn] using hother x hx hn

theorem State.dir_editEntry (s : State) (st : Stream) (source : Nat) (f : DirEntry → DirEntry) :
    ((s.editEntry st source f).ringState st).dir = modifyEntry source f (s.ringState st).dir := by
  rw [State.editEntry, State.ringState_setRingState]

theorem State.ringState_editEntry_ne (s : State) {st st' : Stream} (h : st' ≠ st) (source : Nat)
    (f : DirEntry → DirEntry) : (s.editEntry st source f).ringState st' = s.ringState st' :=
  s.ringState_setRingState_ne h _

namespace State.AllEntries

variable {Q : Stream → DirEntry → Prop} {s t : State}

theorem of_rings (h : s.AllEntries Q) (hrings : ∀ st, t.ringState st = s.ringState st) : t.AllEntries Q := by
  refine ⟨fun st => ?_⟩
  rw [hrings st]
  exact h.of_mem st

theorem of_fsc (h : s.AllEntries Q) (hfsc : t.fsc = s.fsc) : t.AllEntries Q :=
  h.of_rings fun st => State.ringState_congr hfsc st

theorem editEntry (h : s.AllEntries Q) (st : Stream) {source : Nat} {f : DirEntry → DirEntry}
    (hf : ∀ e, e.source = source → Q st e → Q st (f e)) : (s.editEntry st source f).AllEntries Q := by
  refine ⟨fun st' e he => ?_⟩
  by_cases hst : st' = st
  · subst hst
    rw [State.dir_editEntry] at he
    exact forall_mem_modifyEntry (fun x hx hn => hf x hn (h.of_mem _ x hx)) (fun x hx _ => h.of_mem _ x hx) e he
  · rw [State.ringState_editEntry_ne s hst] at he
    exact h.of_mem st' e he

theorem clearNeeds (hQ : DirEntry.KeptByLanes Q) (h : s.AllEntries Q) (l : LaneId) (items : List Item) :
    (s.clearNeeds l items).AllEntries Q := by
  induction items generalizing s with
  | nil => exact h
  | cons i rest ih =>
    cases i with
    | unit st source => exact ih (h.editEntry st fun e _ he => hQ.need st e l he)
    | marker m => exact ih h

section
variable (hQ : DirEntry.KeptByLanes Q) (h : s.AllEntries Q)
include hQ h

theorem startSegment (l : LaneId) (st : Stream) (source : Nat) : (s.startSegment l st source).AllEntries Q := by
  have hread : ∀ r e i x, ((s.setLane l x).countRead r e i).AllEntries Q := fun r e i x => by
    refine h.of_rings fun st' => ?_
    rw [← s.ringState_setLane l x st']
    cases st' <;> rfl
  have hfault : ∀ (u : State) k, u.AllEntries Q → (u.raiseFault l st k).AllEntries Q := fun u k hu =>
    (hu.editEntry st (source := k.source) fun e _ he => hQ.fault st e l he).of_rings fun st' => by
      cases st' <;> simp [State.raiseFault]
  unfold State.startSegment
  split
  · dsimp only
    split
    · split
      · exact hread ..
      · exact hfault _ _ (hread ..)
    · exact hread ..
  · exact h

theorem choose (l : LaneId) : (s.choose l).AllEntries Q := by
  have hset : ∀ x, (s.setLane l x).AllEntries Q := fun x => h.of_fsc (by simp)
  unfold State.choose
  split
  · exact h
  · split
    · exact hset _
    · split
      · exact h
      · exact hset _
      · split
        · exact h
        · exact h.startSegment hQ ..

theorem backlogTest : s.backlogTest.AllEntries Q := by
  unfold State.backlogTest State.chooseIfHeadChanged
  dsimp only
  split
  · exact h
  · have hcleared : ∀ items x, State.AllEntries Q { s.clearNeeds .b items with lsB := x } := fun items _ =>
      (h.clearNeeds hQ .b items).of_fsc rfl
    split
    · exact hcleared ..
    · exact (hcleared ..).choose hQ .b

theorem pushItem (l : LaneId) (i : Item) : (s.pushItem l i).AllEntries Q := by
  have hset : ∀ x, (s.setLane l x).AllEntries Q := fun x => h.of_fsc (by simp)
  unfold State.pushItem
  dsimp only
  split
  · exact (hset _).choose hQ l
  · exact hset _

theorem push (l : LaneId) (i : Item) : (s.push l i).AllEntries Q := by
  have hset : ∀ x, (s.setLane l x).AllEntries Q := fun x => h.of_fsc (by simp)
  cases i with
  | unit st source =>
    cases l with
    | a => exact h.pushItem hQ ..
    | b =>
      simp only [State.push, State.pushUnit]
      split
      · exact (State.AllEntries.pushItem hQ (hset _) ..).backlogTest hQ
      · exact h.clearNeeds hQ ..
  | marker m =>
    unfold State.push State.pushMarker
    dsimp only
    split
    · split
      · exact (hset _).pushItem hQ ..
      · exact hset _
    · split
      · exact hset _
      · exact (hset _).pushItem hQ ..

theorem pushAll (l : LaneId) (items : List Item) : (s.pushAll l items).AllEntries Q := by
  induction items generalizing s with
  | nil => exact h
  | cons i rest ih => exact ih (h.push hQ l i)

theorem handItem (l : LaneId) (take : Option Nat) (i : Item) : (s.handItem l take i).AllEntries Q := by
  unfold State.handItem
  split
  · exact h.push hQ l i
  · split
    · exact h.push hQ l i
    · exact h.of_fsc (by simp)

theorem closeOnLane (t : TakeRec) (l : LaneId) : (s.closeOnLane t l).AllEntries Q := by
  have hpushed : (s.pushMarker l (.takeClose t)).AllEntries Q := h.push hQ l (.marker (.takeClose t))
  unfold State.closeOnLane State.releaseHold
  split
  · exact State.AllEntries.pushAll hQ (hpushed.of_fsc (by simp)) ..
  · exact h

theorem testClosing : s.testClosing.AllEntries Q :=
  State.testClosing_induction (P := State.AllEntries Q) h
    (fun u t _ hu => State.AllEntries.closeOnLane hQ
      (State.AllEntries.closeOnLane hQ (s := u.recordClosed t) (hu.of_fsc rfl) t.closeRec .a) t.closeRec .b)
    fun u hu => hu.of_fsc (by simp)

end

end State.AllEntries

end Sys2Proof.Machine
end

section
/-! STOP, the end of a CLOSING take (R147 to R150) and the appends to the lanes' lists (R160, R161). -/

namespace Sys2Proof.Machine

/-! ## The take that leaves OPEN (R149) -/

/-- A record that has entered CLOSING with an end and a reason (R149). -/
def TakeRec.stopped (x : TakeRec) (reason : EndReason) (e : Int) : TakeRec :=
  { x with state := .closing, e := some e, reason := some reason, stopPending := none }

/-- The OPEN take `o` in CLOSING, before its end is tested (R149). -/
def State.stopped (s : State) (o : TakeRec) (reason : EndReason) (e : Int) : State :=
  { s with tkc := { s.tkc with
      takes := modifyTake o.number (fun x => x.stopped reason e) s.tkc.takes
      lastEnd := some e
      ctl := s.tkc.afterTake } }

theorem modifyTake_modifyTake (n : Nat) {f g : TakeRec → TakeRec} (hg : ∀ x, (g x).number = x.number)
    (takes : List TakeRec) : modifyTake n f (modifyTake n g takes) = modifyTake n (fun x => f (g x)) takes := by
  simp only [modifyTake_eq, List.map_map]
  refine List.map_congr_left fun x _ => ?_
  by_cases hn : x.number = n <;> simp [hn, hg]

section
variable {s : State} {o : TakeRec} (reason : EndReason) (e : Int)

theorem State.leaveOpen_of_closing {c : TakeRec} (hc : s.tkc.inState .closing = some c) :
    s.leaveOpen o reason e = s.editTake o.number fun x => { x with e := some e, stopPending := some reason } := by
  simp only [State.leaveOpen, hc]

theorem State.leaveOpen_of_none (hc : s.tkc.inState .closing = none) :
    s.leaveOpen o reason e = (s.stopped o reason e).testClosing := by
  simp only [State.leaveOpen, hc]
  exact congrArg (fun takes => State.testClosing { s with tkc := { s.tkc with
      takes := takes, lastEnd := some e, ctl := s.tkc.afterTake } })
    (modifyTake_modifyTake o.number
      (f := fun x => { x with state := .closing, reason := some reason, stopPending := none })
      (g := fun x => { x with e := some e, stopPending := some reason }) (fun _ => rfl) s.tkc.takes)

/-- The take that has left OPEN is the CLOSING one. -/
theorem State.stopped_closing (ho : s.tkc.inState .opened = some o) (hc : s.tkc.inState .closing = none) :
    ∃ y, (s.stopped o reason e).tkc.inState .closing = some y ∧ y.number = o.number ∧ y.e = some e ∧
      y.reason = some reason ∧ y.stopPending = none := by
  have hmem : o.stopped reason e ∈ (s.stopped o reason e).tkc.takes := mem_modifyTake_of_eq (Tkc.inState_mem ho) rfl
  have hall : ∀ x ∈ (s.stopped o reason e).tkc.takes, x.state = .closing →
      x.number = o.number ∧ x.e = some e ∧ x.reason = some reason ∧ x.stopPending = none :=
    forall_mem_modifyTake (fun _ _ hn _ => ⟨hn, rfl, rfl, rfl⟩)
      fun y hy _ hyc => absurd hyc (Tkc.inState_eq_none_iff.1 hc y hy)
  cases hy : (s.stopped o reason e).tkc.inState .closing with
  | none => exact absurd rfl (Tkc.inState_eq_none_iff.1 hy _ hmem)
  | some y => exact ⟨y, rfl, hall y (Tkc.inState_mem hy) (Tkc.inState_state hy)⟩

theorem State.oneOpenTake.stopped (h : s.oneOpenTake) (ho : s.tkc.inState .opened = some o)
    (hc : s.tkc.inState .closing = none) :
    (s.stopped o reason e).oneOpenTake ∧ ∀ x ∈ (s.stopped o reason e).tkc.takes, x.state ≠ .opened := by
  obtain ⟨horder, hopen⟩ := (s.oneOpenTake_iff.1 h).enterClosing (k' := (s.stopped o reason e).tkc)
    (f := fun x => x.stopped reason e) (Tkc.inState_mem ho) (Tkc.inState_state ho) (Tkc.inState_eq_none_iff.1 hc)
    (fun _ => rfl) (fun _ => rfl) rfl rfl
  exact ⟨(State.oneOpenTake_iff _).2 horder, hopen⟩

/-- A take that leaves OPEN with nothing unfinished closes at once (R150). -/
theorem State.leaveOpen_of_finished (h : s.oneOpenTake) (ho : s.tkc.inState .opened = some o)
    (hc : s.tkc.inState .closing = none) (hdone : s.unfinished o.number = false) :
    ∃ y : TakeRec, y.number = o.number ∧ y.e = some e ∧ y.reason = some reason ∧ y.stopPending = none ∧
      s.leaveOpen o reason e = (s.stopped o reason e).announcedClosed y := by
  obtain ⟨y, hy, hnumber, hye, hreason, hpending⟩ := State.stopped_closing reason e ho hc
  obtain ⟨hstopped, hnone⟩ := h.stopped reason e ho hc
  refine ⟨y, hnumber, hye, hreason, hpending, ?_⟩
  rw [State.leaveOpen_of_none reason e hc]
  refine State.testClosing_of_done hstopped hy (hnumber ▸ hdone) fun x hx => ?_
  exact absurd (Tkc.inState_state hx) (hnone x (Tkc.inState_mem hx))

theorem State.leaveOpen_of_unfinished (ho : s.tkc.inState .opened = some o) (hc : s.tkc.inState .closing = none)
    (hdone : s.unfinished o.number = true) : s.leaveOpen o reason e = s.stopped o reason e := by
  obtain ⟨y, hy, hnumber, -⟩ := State.stopped_closing reason e ho hc
  rw [State.leaveOpen_of_none reason e hc]
  exact State.testClosing_of_unfinished hy (hnumber ▸ hdone)

end

/-! ## STOP (R149) -/

theorem Tkc.stopEnd_eq (k : Tkc) (o : TakeRec) : k.stopEnd o = (match k.lastOpen with
    | some n => if n < o.s0 then (o.s0 : Int) - 1 else n
    | none => (o.s0 : Int) - 1) := by
  unfold Tkc.stopEnd
  cases k.lastOpen <;> rfl

section
variable {s : State} {o : TakeRec} (d : Directive)

theorem ownStop_of_not_recording (h : s.tkc.ctl ≠ .recording) : ownStop d s = refuse s .refusedState := by
  cases hctl : s.tkc.ctl with
  | recording => exact absurd hctl h
  | idle => simp only [ownStop, hctl]
  | caching => simp only [ownStop, hctl]

theorem ownStop_of_none_running (hctl : s.tkc.ctl = .recording) (h : s.tkc.running = none) :
    ownStop d s = refuse s .refusedState := by simp only [ownStop, hctl, h]

theorem ownStop_of_running (hctl : s.tkc.ctl = .recording) (h : s.tkc.running = some o) : ownStop d s =
    ⟨s.leaveOpen o .stop (s.tkc.stopEnd o), .done,
      .stopped o.number (s.tkc.stopEnd o) (s.tkc.inState .closing).isNone⟩ := by simp only [ownStop, hctl, h]

end

section
variable {s : State} {d : Directive} {rest : List Directive} {o : TakeRec} {e : Int}

/-- STOP of a running take: it leaves OPEN, and the answer bears its number and its E (R149). -/
theorem State.next_stop (hacc : s.accepts .stop d rest) (hctl : s.tkc.ctl = .recording)
    (ho : s.tkc.inState .opened = some o) (hstop : o.stopPending = none) (he : e = s.tkc.stopEnd o) :
    exec .stop s = .next (((s.countTaken .stop).leaveOpen o .stop e).answer d .done
      (.stopped o.number e (s.tkc.inState .closing).isNone)) := by
  subst he
  exact State.next_of_taken hacc (ownStop_of_running d hctl (Tkc.running_eq_some ho hstop))

/-- A STOP with nothing unfinished closes the take: E, the end stamp and the end reason, and TAKE CLOSE on its lanes
(R147, R149, R150). -/
theorem State.stop_closes (h : s.oneOpenTake) (ho : s.tkc.inState .opened = some o)
    (hc : s.tkc.inState .closing = none) (hdone : s.unfinished o.number = false) (e : Int) :
    ∃ u : State, s.leaveOpen o .stop e = u ∧
      u.tkc.lastEnd = some e ∧ u.tkc.ctl = (if s.tkc.armed then .caching else .idle) ∧
      u.tkc.nextTake = s.tkc.nextTake ∧ u.ti = s.ti ∧ u.prs = s.prs ∧ u.tcu = s.tcu ∧ u.tc = s.tc ∧ u.dram = s.dram ∧
      (∀ x ∈ u.tkc.takes, x.number = o.number → x.state = .closed ∧ x.e = some e ∧ x.stopPending = none ∧
        x.endStamp = x.lastFull.map LastFull.stamp ∧
        x.reason = some (if x.full = 0 ∧ x.proxy = 0 then .empty else .stop)) ∧
      ∃ x ∈ u.tkc.takes, x.number = o.number ∧ ∀ l : LaneId, x.onLane l = true →
        (s.lane l).unannounced ≠ some o.number → .marker (.takeClose x) ∈ (u.lane l).items := by
  have hframe := State.testClosing_frame (s.stopped o .stop e)
  rw [← State.leaveOpen_of_none .stop e hc] at hframe
  obtain ⟨hti, -, hprs, -, htc, -, -, htcu, hdram, -⟩ := hframe
  obtain ⟨y, hnumber, hye, hreason, hpending, hclosed⟩ := State.leaveOpen_of_finished .stop e h ho hc hdone
  have htakes : (s.leaveOpen o .stop e).tkc.takes =
      modifyTake y.number (fun _ => y.closeRec) (s.stopped o .stop e).tkc.takes := by
    rw [hclosed]
    exact (State.announcedClosed_tkc _ y).1
  refine ⟨_, rfl, ?_, ?_, ?_, hti, hprs, htcu, htc, hdram, ?_, ?_⟩
  · simp [hclosed, State.stopped]
  · simp [hclosed, State.stopped, Tkc.afterTake]
  · simp [hclosed, State.stopped]
  · rw [htakes]
    refine forall_mem_modifyTake (fun _ _ _ _ => ⟨rfl, hye, hpending, rfl, ?_⟩) fun x _ hne hx => ?_
    · simp [TakeRec.closeRec, TakeRec.finalReason, hreason]
    · exact absurd (hx.trans hnumber.symm) hne
  · refine ⟨y.closeRec, ?_, hnumber, fun l hlane hannounced => ?_⟩
    · rw [htakes]
      exact mem_modifyTake_of_eq (f := fun _ => y.closeRec) (mem_modifyTake_of_eq (Tkc.inState_mem ho) rfl) hnumber.symm
    · have hstopped : ((s.stopped o .stop e).lane l).unannounced ≠ some y.number := by
        rw [hnumber]
        cases l <;> exact hannounced
      rw [hclosed]
      exact State.announcedClosed_takeClose (by cases l <;> exact hlane) hstopped

end

/-! ## The end of the CLOSING take (R150) -/

theorem State.unfinished_iff (s : State) (n : Nat) : s.unfinished n = true ↔
    (∃ r ∈ s.ti.table, r.take = some n ∧ r.finished = false) ∨ ∃ w ∈ s.tkc.waiting, w.take = n := by
  simp [State.unfinished]

section
variable {s : State} {t : TakeRec}

/-- A record under a number stays as it is when it is CLOSED. -/
theorem TakeRec.keptByClosing_of_closed {c : TakeRec} (hc : c.state = .closed) :
    TakeRec.KeptByClosing fun x => x.number = c.number → x = c := by
  refine ⟨fun x hx hQ hn => ?_, fun o x ho hQo _ hn hnumber => ?_⟩
  · have hxc : x = c := hQ hn
    rw [hxc, hc] at hx
    cases hx
  · have hoc : o = c := hQo (hn.symm.trans hnumber)
    rw [hoc, hc] at ho
    cases ho

/-- A take whose records have left OPEN with no stop pending keeps its reason until it closes. -/
theorem TakeRec.keptByClosing_of_left (n : Nat) (r : EndReason) : TakeRec.KeptByClosing fun x =>
    x.number = n → x.state ≠ .opened ∧ x.stopPending = none ∧ (x.state = .closing → x.reason = some r) :=
  ⟨fun _ _ hQ hn => ⟨nofun, (hQ hn).2.1, nofun⟩,
    fun _ _ ho hQo _ hn hnumber => absurd ho (hQo (hn.symm.trans hnumber)).1⟩

theorem State.testClosing_of_finished (ht : s.tkc.inState .closing = some t) (hdone : s.unfinished t.number = false) :
    s.testClosing = (s.announcedClosed t).promote.closeIfDone := by
  rw [State.testClosing, State.closeIfDone_of_done ht hdone]

theorem State.testClosing_record (ht : s.tkc.inState .closing = some t) (hdone : s.unfinished t.number = false) :
    ∀ x ∈ s.testClosing.tkc.takes, x.number = t.number → x = t.closeRec := by
  have hQ : TakeRec.KeptByClosing fun x => x.number = t.closeRec.number → x = t.closeRec :=
    TakeRec.keptByClosing_of_closed rfl
  rw [State.testClosing_of_finished ht hdone]
  refine State.closeIfDone_takes hQ (State.promote_takes hQ ?_)
  rw [(State.announcedClosed_tkc s t).1]
  exact forall_mem_modifyTake (fun _ _ _ _ => rfl) fun _ _ hne hn => absurd hn hne

theorem State.testClosing_takeClose (ht : s.tkc.inState .closing = some t) (hdone : s.unfinished t.number = false)
    {l : LaneId} (hlane : t.onLane l = true) (hannounced : (s.lane l).unannounced ≠ some t.number) :
    .marker (.takeClose t.closeRec) ∈ (s.testClosing.lane l).items := by
  rw [State.testClosing_of_finished ht hdone]
  refine State.closeIfDone_stays trivial ?_
  rw [State.promote_lane]
  exact State.announcedClosed_takeClose hlane hannounced

/-- The OPEN take with a stop pending follows the take that closes into CLOSING, and RECORDING ends (R149, R150). -/
theorem State.testClosing_promotes (h : s.oneOpenTake) (ht : s.tkc.inState .closing = some t)
    (hdone : s.unfinished t.number = false) {o : TakeRec} {r : EndReason} (ho : s.tkc.inState .opened = some o)
    (hr : o.stopPending = some r) :
    s.testClosing.tkc.lastEnd = o.e ∧ s.testClosing.tkc.ctl = (if s.tkc.armed then .caching else .idle) ∧
    ∀ x ∈ s.testClosing.tkc.takes, x.number = o.number →
      x.state ≠ .opened ∧ x.stopPending = none ∧ (x.state = .closing → x.reason = some r) := by
  obtain ⟨hclosed, hnone⟩ := h.announcedClosed ht
  have ho' : (s.announcedClosed t).tkc.inState .opened = some o := (h.inState_announcedClosed ht).trans ho
  obtain ⟨-, hleft⟩ := hclosed.enterClosing (Tkc.inState_mem ho') (Tkc.inState_state ho') rfl
    (Tkc.inState_eq_none_iff.1 hnone)
  obtain ⟨hlast, hctl⟩ := State.closeIfDone_of_no_open hleft
  rw [State.testClosing_of_finished ht hdone, State.promote_of_pending ho' hr, hlast, hctl]
  refine ⟨rfl, by simp [State.enterClosing, Tkc.afterTake], ?_⟩
  refine State.closeIfDone_takes (TakeRec.keptByClosing_of_left o.number r) ?_
  rw [State.enterClosing_takes]
  exact forall_mem_modifyTake (fun _ _ _ _ => ⟨nofun, rfl, fun _ => hr⟩) fun _ _ hne hn => absurd hn hne

end

/-! ## Units on Lane B (R161) -/

section
variable {s : State} {st : Stream} {source : Nat}

theorem State.lawfulOnB_iff : s.lawfulOnB st source = true ↔ (∀ n, s.lsB.lastUnit = some n → n < source) ∧
    ∀ n, s.lsB.openTake = some n → ∃ e, (s.ringState st).entry source = some e ∧ e.take = some n := by
  have hlast : s.lsB.inOrder source = true ↔ ∀ n, s.lsB.lastUnit = some n → n < source := by
    unfold LaneSender.inOrder
    cases s.lsB.lastUnit <;> simp
  unfold State.lawfulOnB
  rw [Bool.and_eq_true, hlast]
  refine and_congr_right fun _ => ?_
  cases s.lsB.openTake <;> simp [Option.bind_eq_some_iff]

theorem State.pushUnit_of_lawful (h : s.lawfulOnB st source = true) : s.pushUnit .b st source =
    (State.pushItem { s with lsB := { s.lsB with lastUnit := some source } } .b (.unit st source)).backlogTest :=
  if_pos h

theorem State.pushUnit_of_unlawful (h : ¬ s.lawfulOnB st source = true) :
    s.pushUnit .b st source = s.clearNeeds .b [.unit st source] := if_neg h

/-- A unit above every unit the list has held keeps it in order, whatever units leave it. -/
theorem State.laneBInOrder.append {t : State} (h : s.laneBInOrder) (habove : ∀ n, s.lsB.lastUnit = some n → n < source)
    (hitems : t.lsB.items.Sublist (s.lsB.items ++ [.unit st source])) (hlast : t.lsB.lastUnit = some source) :
    t.laneBInOrder := by
  obtain ⟨hsorted, hbelow⟩ := h
  have hunits : (t.lsB.items.filterMap Item.source?).Sublist (s.lsB.items.filterMap Item.source? ++ [source]) := by
    simpa [Item.source?] using hitems.filterMap Item.source?
  have hlt : ∀ x ∈ s.lsB.items.filterMap Item.source?, x < source := fun x hx => by
    obtain ⟨n, hn, hle⟩ := hbelow x hx
    exact hle.trans_lt (habove n hn)
  refine ⟨List.Pairwise.sublist hunits ?_, fun x hx => ⟨source, hlast, ?_⟩⟩
  · exact List.pairwise_append.2 ⟨hsorted, List.pairwise_singleton _ _, fun x hx y hy => by
      rw [List.mem_singleton.1 hy]
      exact hlt x hx⟩
  · rcases List.mem_append.1 (hunits.subset hx) with hx | hx
    · exact (hlt x hx).le
    · exact (List.mem_singleton.1 hx).le

theorem State.laneBInOrder.pushUnit (h : s.laneBInOrder) : (s.pushUnit .b st source).laneBInOrder := by
  by_cases hlawful : s.lawfulOnB st source = true
  · rw [State.pushUnit_of_lawful hlawful]
    obtain ⟨-, k, hdropped⟩ := State.backlogTest_lane
      (State.pushItem { s with lsB := { s.lsB with lastUnit := some source } } .b (.unit st source))
    rw [State.pushItem_listSide, State.pushItem_items] at hdropped
    have hitems := congrArg LaneSender.items hdropped
    have hlast := congrArg LaneSender.lastUnit hdropped
    refine h.append (st := st) (State.lawfulOnB_iff.1 hlawful).1 ?_ hlast
    exact hitems ▸ LaneSender.dropOldest_sublist ..
  · have hsame : (s.clearNeeds .b [.unit st source]).lsB = s.lsB := s.clearNeeds_lane .b _ .b
    rw [State.pushUnit_of_unlawful hlawful, State.laneBInOrder, hsame]
    exact h

end

end Sys2Proof.Machine
end

section
/-! A cut (R152): the pictures above the new end leave the take, its entries and its holds, and its end falls. -/

namespace Sys2Proof.Machine

theorem foldl_keeps {α β : Type} {P : β → Prop} {f : β → α → β} (hkeep : ∀ b x, P b → P (f b x)) (l : List α) {b : β}
    (hb : P b) : P (l.foldl f b) := List.foldlRecOn l f hb fun b hb x _ => hkeep b x hb

/-- What one element of a list sets up and every element keeps, a fold over the list sets up. -/
theorem foldl_establishes {α β : Type} {P : β → Prop} {f : β → α → β} {a : α} {l : List α} (ha : a ∈ l)
    (hset : ∀ b, P (f b a)) (hkeep : ∀ b x, P b → P (f b x)) (b : β) : P (l.foldl f b) := by
  induction l generalizing b with
  | nil => exact nomatch ha
  | cons x rest ih =>
    rcases List.mem_cons.1 ha with rfl | ha
    · exact foldl_keeps hkeep rest (hset b)
    · exact ih ha _

/-! ## The pictures that leave, by their entries -/

/-- The take of the unit of a source number, as its entry has it. -/
def State.entryTake (s : State) (st : Stream) (n : Nat) : Option Nat := ((s.ringState st).entry n).bind DirEntry.take

theorem State.leavingItem_unit (s : State) (t : TakeRec) (newEnd : Int) (st : Stream) (n : Nat) :
    s.leavingItem t newEnd (.unit st n) = (s.leaves t newEnd n && s.entryTake st n == some t.number) := by
  simp only [State.leavingItem, State.entryTake]
  cases (s.ringState st).entry n <;> simp

theorem bind_take_modifyEntry {f : DirEntry → DirEntry} (hf : ∀ e, (f e).source = e.source ∧ (f e).take = e.take)
    (source n : Nat) (dir : List DirEntry) :
    ((modifyEntry source f dir).find? fun e => e.source == n).bind DirEntry.take =
      (dir.find? fun e => e.source == n).bind DirEntry.take := by
  have hsame : ∀ e : DirEntry, (if e.source == source then f e else e).source = e.source ∧
      (if e.source == source then f e else e).take = e.take := fun e => by
    split
    · exact hf e
    · exact ⟨rfl, rfl⟩
  induction dir with
  | nil => rfl
  | cons e rest ih =>
    obtain ⟨hsource, htake⟩ := hsame e
    simp only [modifyEntry, List.map_cons, List.find?_cons, hsource] at ih ⊢
    cases e.source == n
    · exact ih
    · exact htake

theorem State.entryTake_clearNeeds (s : State) (l : LaneId) (items : List Item) (st : Stream) (n : Nat) :
    (s.clearNeeds l items).entryTake st n = s.entryTake st n := by
  induction items generalizing s with
  | nil => rfl
  | cons i rest ih =>
    cases i with
    | marker m => exact ih s
    | unit st' source =>
      refine (ih _).trans ?_
      by_cases hst : st = st'
      · subst hst
        unfold State.entryTake RingState.entry
        rw [State.dir_editEntry]
        exact bind_take_modifyEntry (fun e => by cases l <;> exact ⟨rfl, rfl⟩) ..
      · exact congrArg (fun r : RingState => (r.entry n).bind DirEntry.take) (s.ringState_editEntry_ne hst ..)

/-! ## The parts of a cut's work on the pictures -/

section
variable {s : State} {t : TakeRec} {newEnd : Int}

theorem State.cutHold_hold (l l' : LaneId) : (s.cutHold t newEnd l).hold l' =
    if l' = l then (s.hold l).filter fun i => !s.leavingItem t newEnd i else s.hold l' := by
  cases l <;> cases l' <;> simp [State.cutHold, State.hold, State.setHold]

theorem State.cutHold_leavingItem (l : LaneId) (i : Item) :
    (s.cutHold t newEnd l).leavingItem t newEnd i = s.leavingItem t newEnd i := by
  cases i with
  | marker m => rfl
  | unit st n =>
    have hleaves : (s.cutHold t newEnd l).leaves t newEnd n = s.leaves t newEnd n := by
      unfold State.leaves
      rw [(State.cutHold_tkc s t newEnd l).2.2.2.2.2.1]
    have htake : (s.cutHold t newEnd l).entryTake st n = s.entryTake st n := by
      rw [← s.entryTake_clearNeeds l ((s.hold l).filter (s.leavingItem t newEnd)) st n]
      cases l <;> cases st <;> rfl
    rw [State.leavingItem_unit, State.leavingItem_unit, hleaves, htake]

/-- A state once the holds are cut and the needs of the leaving units that wait are cleared. -/
def State.cutWaiting (s : State) (t : TakeRec) (newEnd : Int) : State :=
  ((((s.cutHold t newEnd .a).cutHold t newEnd .b).tkc.waiting.filter fun w =>
    w.take == t.number && s.leaves t newEnd w.source).foldl State.clearWaiting
      ((s.cutHold t newEnd .a).cutHold t newEnd .b))

/-- An entry once a leaving picture has lost its take number and its record-run stamp. -/
def State.wiped (s : State) (t : TakeRec) (newEnd : Int) (e : DirEntry) : DirEntry :=
  if e.take == some t.number && s.leaves t newEnd e.source then { e with take := none, rrStamp := none } else e

theorem State.cutWaiting_tkc : (s.cutWaiting t newEnd).tkc = ((s.cutHold t newEnd .a).cutHold t newEnd .b).tkc :=
  foldl_frame State.tkc _ (fun u w => by simp) _ _

theorem State.dropPictures_dir (st : Stream) : ((s.dropPictures t newEnd).ringState st).dir =
    ((s.cutWaiting t newEnd).ringState st).dir.map (s.wiped t newEnd) := by cases st <;> rfl

theorem State.dropPictures_waiting : (s.dropPictures t newEnd).tkc.waiting =
    s.tkc.waiting.filter fun w => !(w.take == t.number && s.leaves t newEnd w.source) := by
  have hwaiting : (s.dropPictures t newEnd).tkc.waiting = (s.cutWaiting t newEnd).tkc.waiting.filter fun w =>
      !(w.take == t.number && s.leaves t newEnd w.source) := rfl
  rw [hwaiting, State.cutWaiting_tkc]
  simp

/-- A leaving unit of the take stands in no hold (R152). -/
theorem State.dropPictures_hold {l : LaneId} {i : Item} (hi : i ∈ (s.dropPictures t newEnd).hold l) :
    s.leavingItem t newEnd i = false := by
  have hhold : (s.dropPictures t newEnd).hold l = ((s.cutHold t newEnd .a).cutHold t newEnd .b).hold l := by
    have hholds : (s.dropPictures t newEnd).hold l = (s.cutWaiting t newEnd).hold l := by cases l <;> rfl
    rw [hholds]
    cases l
    · exact congrArg Tkc.holdA State.cutWaiting_tkc
    · exact congrArg Tkc.holdB State.cutWaiting_tkc
  rw [hhold] at hi
  cases l <;>
    · simp only [State.cutHold_hold, State.cutHold_leavingItem, if_true, if_false, reduceCtorEq, List.mem_filter] at hi
      simpa using hi.2

theorem State.dropPictures_table : ∀ r ∈ (s.dropPictures t newEnd).ti.table, r.take = some t.number →
    s.leaves t newEnd r.source = false := by
  have htable : (s.dropPictures t newEnd).ti.table = (s.cutWaiting t newEnd).ti.table.map fun r =>
      if r.take == some t.number && s.leaves t newEnd r.source then { r with take := none, rrStamp := none }
      else r := rfl
  rw [htable]
  intro r hr htake
  obtain ⟨q, -, rfl⟩ := List.mem_map.1 hr
  by_cases hout : (q.take == some t.number && s.leaves t newEnd q.source) = true
  · rw [if_pos hout] at htake
    cases htake
  · rw [if_neg hout] at htake ⊢
    simpa [htake] using hout

/-! ## The entries behind a cut -/

/-- The entries of the take's number lie outside the pictures that leave it. -/
def State.KeepsOut (s : State) (t : TakeRec) (newEnd : Int) (_ : Stream) (e : DirEntry) : Prop :=
  e.take = some t.number → s.leaves t newEnd e.source = false

/-- An entry has none of the needs that were set for a waiting unit. -/
def Waiting.Cleared (w : Waiting) (st : Stream) (e : DirEntry) : Prop :=
  st = .p → e.source = w.source → (w.toA = true → e.needA = false) ∧ (w.toB = true → e.needB = false)

theorem State.keptByLanes_keepsOut : DirEntry.KeptByLanes (s.KeepsOut t newEnd) :=
  ⟨fun _ _ l h => by cases l <;> exact h, fun _ _ l h => by cases l <;> exact h⟩

theorem Waiting.keptByLanes_cleared (w : Waiting) : DirEntry.KeptByLanes w.Cleared := by
  refine ⟨fun _ _ l h => by cases l <;> exact h, fun _ _ l h hst hsource => ?_⟩
  cases l with
  | a => exact ⟨fun _ => rfl, (h hst hsource).2⟩
  | b => exact ⟨(h hst hsource).1, fun _ => rfl⟩

theorem State.clearWaiting_cleared (s : State) (w : Waiting) : (s.clearWaiting w).AllEntries w.Cleared := by
  refine ⟨fun st e he hst => ?_⟩
  subst hst
  rw [State.clearWaiting, State.dir_editEntry] at he
  revert e
  exact forall_mem_modifyEntry (fun e _ _ _ => ⟨fun htoA => by simp [htoA], fun htoB => by simp [htoB]⟩)
    fun e _ hne he => absurd he hne

theorem State.AllEntries.clearWaiting {w : Waiting} (h : s.AllEntries w.Cleared) (v : Waiting) :
    (s.clearWaiting v).AllEntries w.Cleared := by
  refine h.editEntry .p fun e _ he hst hsource => ?_
  obtain ⟨hneedA, hneedB⟩ := he hst hsource
  exact ⟨fun htoA => by simp [hneedA htoA], fun htoB => by simp [hneedB htoB]⟩

theorem State.foldl_clearWaiting_cleared {w : Waiting} (gone : List Waiting) (hw : w ∈ gone) (s : State) :
    (gone.foldl State.clearWaiting s).AllEntries w.Cleared :=
  foldl_establishes hw (fun u => u.clearWaiting_cleared w) (fun _ v hu => hu.clearWaiting v) s

theorem State.dropPictures_keepsOut : (s.dropPictures t newEnd).AllEntries (s.KeepsOut t newEnd) := by
  refine ⟨fun st e he htake => ?_⟩
  rw [State.dropPictures_dir] at he
  obtain ⟨x, -, rfl⟩ := List.mem_map.1 he
  unfold State.wiped at htake ⊢
  by_cases hout : (x.take == some t.number && s.leaves t newEnd x.source) = true
  · rw [if_pos hout] at htake
    cases htake
  · rw [if_neg hout] at htake ⊢
    simpa [htake] using hout

/-- The needs that were set for a leaving unit that waited are cleared (R152). -/
theorem State.dropPictures_cleared {w : Waiting} (hw : w ∈ s.tkc.waiting) (htake : w.take = t.number)
    (hout : s.leaves t newEnd w.source = true) : (s.dropPictures t newEnd).AllEntries w.Cleared := by
  have hgone : (s.cutWaiting t newEnd).AllEntries w.Cleared :=
    State.foldl_clearWaiting_cleared _ (List.mem_filter.2 ⟨by simpa using hw, by simp [htake, hout]⟩) _
  refine ⟨fun st e he => ?_⟩
  rw [State.dropPictures_dir] at he
  obtain ⟨x, hx, rfl⟩ := List.mem_map.1 he
  unfold State.wiped
  split
  · exact hgone.of_mem st x hx
  · exact hgone.of_mem st x hx

/-! ## The cut -/

/-- A cut noted (R153). -/
def State.cutNoted (s : State) (c : Nat) : State :=
  { s with tkc := { s.tkc with fCut := match s.tkc.fCut with
    | some x => some (max x c)
    | none => some c } }

/-- A state under another Take Table, last end and controller state. -/
def State.underTakes (s : State) (takes : List TakeRec) (lastEnd : Option Int) (ctl : CtlState) : State :=
  { s with tkc := { s.tkc with takes := takes, lastEnd := lastEnd, ctl := ctl } }

theorem State.leaveOpen_induction {P : State → Prop} (o : TakeRec) (reason : EndReason) (e : Int)
    (hedit : ∀ takes lastEnd ctl, P (s.underTakes takes lastEnd ctl)) (htest : ∀ v, P v → P v.testClosing) :
    P (s.leaveOpen o reason e) := by
  cases hc : s.tkc.inState .closing with
  | none =>
    rw [State.leaveOpen_of_none reason e hc]
    exact htest _ (hedit ..)
  | some x =>
    rw [State.leaveOpen_of_closing reason e hc]
    exact hedit ..

theorem TakeRec.cutEnd_eq (t : TakeRec) (c : Nat) : t.cutEnd c = (match t.lastFull with
    | some f => if f.source < c then (f.source : Int) else (t.s : Int) - 1
    | none => (t.s : Int) - 1) := by
  unfold TakeRec.cutEnd
  cases t.lastFull <;> rfl

section
variable {c : Nat} (reason : EndReason)

theorem State.cut_of_none (h : s.tkc.cutTake c = none) : s.cut c reason = s.cutNoted c := by
  have hnone : (s.cutNoted c).tkc.cutTake c = none := h
  unfold State.cut
  dsimp only
  split
  · rfl
  · next x hx => exact nomatch hnone.symm.trans hx

/-- The end of a take that has left OPEN falls to the new end (R152). -/
def TakeRec.cutShort (newEnd : Int) (x : TakeRec) : TakeRec :=
  { x with
    e := x.e.map fun e => min e newEnd
    short := x.short || (match x.e with | some e => decide (newEnd < e) | none => false) }

theorem State.cut_of_some (h : s.tkc.cutTake c = some t) : s.cut c reason =
    if t.state = .opened ∧ t.stopPending = none
    then ((s.cutNoted c).dropPictures t (t.cutEnd c)).leaveOpen t reason (t.cutEnd c)
    else (((s.cutNoted c).dropPictures t (t.cutEnd c)).editTake t.number
      (TakeRec.cutShort (t.cutEnd c))).testClosing := by
  have hsome : (s.cutNoted c).tkc.cutTake c = some t := h
  unfold State.cut
  dsimp only
  split
  · next hx => exact nomatch hsome.symm.trans hx
  · next x hx =>
    obtain rfl : t = x := Option.some.inj (hsome.symm.trans hx)
    rfl

theorem State.cut_of_open (h : s.tkc.cutTake c = some t) (hopen : t.state = .opened ∧ t.stopPending = none) :
    s.cut c reason = ((s.cutNoted c).dropPictures t (t.cutEnd c)).leaveOpen t reason (t.cutEnd c) := by
  rw [State.cut_of_some reason h, if_pos hopen]

theorem State.cut_of_left (h : s.tkc.cutTake c = some t) (hopen : ¬ (t.state = .opened ∧ t.stopPending = none)) :
    s.cut c reason = (((s.cutNoted c).dropPictures t (t.cutEnd c)).editTake t.number
      (TakeRec.cutShort (t.cutEnd c))).testClosing := by
  rw [State.cut_of_some reason h, if_neg hopen]

/-- Behind the pictures that leave, a cut is the update of the Take Table and the test of the CLOSING take's end. -/
theorem State.cut_induction {P : State → Prop} (h : s.tkc.cutTake c = some t)
    (hdrop : ∀ takes lastEnd ctl,
      P (((s.cutNoted c).dropPictures t (t.cutEnd c)).underTakes takes lastEnd ctl))
    (htest : ∀ v, P v → P v.testClosing) : P (s.cut c reason) := by
  by_cases hopen : t.state = .opened ∧ t.stopPending = none
  · rw [State.cut_of_open reason h hopen]
    exact State.leaveOpen_induction t reason _ hdrop htest
  · rw [State.cut_of_left reason h hopen]
    exact htest _ (hdrop ..)

theorem State.cut_entries {Q : Stream → DirEntry → Prop} (hQ : DirEntry.KeptByLanes Q) (h : s.tkc.cutTake c = some t)
    (hdrop : ((s.cutNoted c).dropPictures t (t.cutEnd c)).AllEntries Q) : (s.cut c reason).AllEntries Q :=
  State.cut_induction reason h (fun _ _ _ => hdrop.of_fsc rfl) fun _ hv => hv.testClosing hQ

/-- What a cut leaves of the intake, the waiting units, the holds and the note of cuts (R152, R153). -/
theorem State.cut_parts (h : s.tkc.cutTake c = some t) :
    (s.cut c reason).ti = ((s.cutNoted c).dropPictures t (t.cutEnd c)).ti ∧
    (s.cut c reason).tkc.waiting = ((s.cutNoted c).dropPictures t (t.cutEnd c)).tkc.waiting ∧
    (s.cut c reason).tkc.fCut = (s.cutNoted c).tkc.fCut ∧
    ∀ l, (s.cut c reason).hold l ⊆ ((s.cutNoted c).dropPictures t (t.cutEnd c)).hold l := by
  refine State.cut_induction (P := fun u => u.ti = ((s.cutNoted c).dropPictures t (t.cutEnd c)).ti ∧
    u.tkc.waiting = ((s.cutNoted c).dropPictures t (t.cutEnd c)).tkc.waiting ∧
    u.tkc.fCut = (s.cutNoted c).tkc.fCut ∧ ∀ l, u.hold l ⊆ ((s.cutNoted c).dropPictures t (t.cutEnd c)).hold l)
    reason h (fun takes lastEnd ctl => ⟨rfl, rfl, ?_, fun l => ?_⟩) fun v hv => ?_
  · exact (State.dropPictures_tkc (s.cutNoted c) t (t.cutEnd c)).2.2.2.2.2.1
  · cases l <;> exact List.Subset.refl _
  · obtain ⟨hti, hwaiting, hcut, hhold⟩ := hv
    exact ⟨by simp [hti], by simp [hwaiting], by simp [hcut],
      fun l => List.Subset.trans (v.testClosing_hold l) (hhold l)⟩

/-- The OPEN take cut: its end is the new end, and it leaves OPEN unless another take is CLOSING (R152). -/
theorem State.cut_open_takes (h : s.tkc.cutTake c = some t) (hopen : t.state = .opened ∧ t.stopPending = none) :
    ∀ x ∈ (s.cut c reason).tkc.takes, x.number = t.number →
      x.e = some (t.cutEnd c) ∧ (s.tkc.inState .closing = none → x.state ≠ .opened) := by
  have hclosing : ((s.cutNoted c).dropPictures t (t.cutEnd c)).tkc.inState .closing = s.tkc.inState .closing := by
    simp [Tkc.inState, State.cutNoted]
  rw [State.cut_of_open reason h hopen]
  cases hc : s.tkc.inState .closing with
  | none =>
    have hQ : TakeRec.KeptByClosing fun x => x.number = t.number → x.e = some (t.cutEnd c) ∧ x.state ≠ .opened :=
      ⟨fun _ _ hx hn => ⟨(hx hn).1, nofun⟩, fun _ _ _ _ hx _ hn => ⟨(hx hn).1, nofun⟩⟩
    rw [State.leaveOpen_of_none reason _ (hclosing.trans hc)]
    refine fun x hx hn => (State.testClosing_takes hQ ?_ x hx hn).imp id fun hleft _ => hleft
    exact forall_mem_modifyTake (fun _ _ _ _ => ⟨rfl, nofun⟩) fun _ _ hne hn => absurd hn hne
  | some y =>
    rw [State.leaveOpen_of_closing reason _ (hclosing.trans hc)]
    exact forall_mem_modifyTake (fun _ _ _ _ => ⟨rfl, nofun⟩) fun _ _ hne hn => absurd hn hne

/-- A take cut once it has left OPEN ends at the new end or below (R152). -/
theorem State.cut_left_takes (h : s.tkc.cutTake c = some t) (hopen : ¬ (t.state = .opened ∧ t.stopPending = none)) :
    ∀ x ∈ (s.cut c reason).tkc.takes, x.number = t.number → ∀ e, x.e = some e → e ≤ t.cutEnd c := by
  have hQ : TakeRec.KeptByClosing fun x => x.number = t.number → ∀ e, x.e = some e → e ≤ t.cutEnd c :=
    ⟨fun _ _ hx hn => hx hn, fun _ _ _ _ hx _ hn => hx hn⟩
  rw [State.cut_of_left reason h hopen]
  refine State.testClosing_takes hQ (forall_mem_modifyTake (fun y _ _ _ e he => ?_) fun _ _ hne hn => absurd hn hne)
  obtain ⟨e', -, rfl⟩ := Option.map_eq_some_iff.1 he
  exact min_le_right ..

end

end

/-! ## The obligation -/

/-- Settles O44. -/
theorem stopCloseAndCutEndATake : Obligations.StopCloseAndCutEndATake := by
  refine ⟨fun s d rest hacc => ⟨fun hctl => ?notRecording, fun o e hctl ho he => ⟨fun hpending => ?pending,
      fun c hstop hc => ?closing, fun h hstop hc => ⟨fun hdone => ?unfinished, fun hdone => ?finished⟩⟩⟩,
    State.unfinished_iff, fun s t c h ht hrec => ⟨fun hdone => State.testClosing_of_unfinished ht hdone,
      fun hdone => ?closes⟩, fun s t l hlane => ⟨if_pos hlane, rfl⟩,
    fun s st source => ⟨fun hlawful => State.pushUnit_of_lawful (State.lawfulOnB_iff.2 hlawful),
      fun hunlawful => ?dropped, fun h => h.pushUnit⟩,
    fun s l n s0 first pActual mode t => ⟨fun hroom => ?takeOpen, fun hannounced => ?takeClose⟩,
    fun s c reason hnone => State.cut_of_none reason hnone, fun s u c reason t newEnd ht hu hend => ?cut⟩
  case notRecording => exact State.next_of_refused hacc (ownStop_of_not_recording d hctl)
  case pending =>
    refine State.next_of_refused hacc (ownStop_of_none_running d hctl (Tkc.running_eq_none fun x hx => ?_))
    rwa [Option.some.inj (hx.symm.trans ho)]
  case closing =>
    have hclosing : (s.countTaken .stop).tkc.inState .closing = some c := hc
    rw [State.next_stop hacc hctl ho hstop (he.trans (s.tkc.stopEnd_eq o).symm),
      State.leaveOpen_of_closing _ _ hclosing, hc, State.editTake, modifyTake_eq]
    rfl
  case unfinished =>
    rw [State.next_stop hacc hctl ho hstop (he.trans (s.tkc.stopEnd_eq o).symm),
      State.leaveOpen_of_unfinished (s := s.countTaken .stop) _ _ ho hc hdone, hc, State.stopped, modifyTake_eq]
    rfl
  case finished =>
    obtain ⟨u, hu, hrest⟩ := State.stop_closes (s := s.countTaken .stop) (h.same rfl) ho hc hdone e
    refine ⟨u, ?_, hrest⟩
    rw [State.next_stop hacc hctl ho hstop (he.trans (s.tkc.stopEnd_eq o).symm), hu, hc]
    rfl
  case closes =>
    obtain rfl : c = t.closeRec := hrec
    exact ⟨State.testClosing_record ht hdone,
      fun l hlane hannounced => State.testClosing_takeClose ht hdone hlane hannounced,
      fun o r ho hr => State.testClosing_promotes h ht hdone ho hr⟩
  case dropped =>
    refine State.pushUnit_of_unlawful fun hlawful => ?_
    obtain ⟨habove, htake⟩ := State.lawfulOnB_iff.1 hlawful
    rcases hunlawful with ⟨n, hn, hle⟩ | ⟨n, hn, hother⟩
    · exact absurd (habove n hn) (Nat.not_lt.2 hle)
    · obtain ⟨e, he, hetake⟩ := htake n hn
      exact hother e he hetake
  case takeOpen => exact congrArg LaneSender.openTake (State.pushMarker_takeOpen hroom)
  case takeClose => exact congrArg LaneSender.openTake (State.pushMarker_takeClose hannounced)
  case cut =>
    obtain rfl : newEnd = t.cutEnd c := hend.trans (t.cutEnd_eq c).symm
    subst hu
    obtain ⟨hti, hwaiting, hcut, hhold⟩ := State.cut_parts reason ht
    refine ⟨hcut, ?entries, ?records, ?waiting, fun w hw htake hout => ?needs,
      fun st source e l he htake hout hmem => ?holds,
      fun x hx hn => ⟨fun hopened hpending => ?opened, fun hleft => ?left⟩, by simp, by simp⟩
    case entries => exact (State.cut_entries reason State.keptByLanes_keepsOut ht State.dropPictures_keepsOut).of_mem
    case records =>
      rw [hti]
      exact State.dropPictures_table
    case waiting =>
      rw [hwaiting, State.dropPictures_waiting]
      intro w hw htake
      have hstay : (s.cutNoted c).leaves t (t.cutEnd c) w.source = false := by
        simpa [htake] using (List.mem_filter.1 hw).2
      exact hstay
    case needs =>
      intro e he
      have hcleared := State.cut_entries reason w.keptByLanes_cleared ht
        (State.dropPictures_cleared (s := s.cutNoted c) hw htake hout)
      exact hcleared.of_mem .p e (List.mem_of_find?_eq_some he) rfl (by simpa using List.find?_some he)
    case holds =>
      have hstay := State.dropPictures_hold (hhold l hmem)
      have hentry : (s.cutNoted c).entryTake st source = some t.number := by
        have hring : (s.cutNoted c).ringState st = s.ringState st := State.ringState_congr rfl st
        rw [State.entryTake, hring, he]
        exact htake
      rw [State.leavingItem_unit, hentry] at hstay
      have hleaves : (s.cutNoted c).leaves t (t.cutEnd c) source = true := hout
      simp [hleaves] at hstay
    case opened => exact State.cut_open_takes reason ht ⟨hopened, hpending⟩ x hx hn
    case left =>
      exact State.cut_left_takes reason ht (fun hopen => hleft.elim (fun h => h hopen.1) fun h => h hopen.2) x hx hn

end Sys2Proof.Machine
end

section
/-! START (R138 to R146): the walk, the new record, the pre-roll joined and handed, and TAKE OPEN. -/

namespace Sys2Proof.Machine

/-! ## The pre-roll walk (R141) -/

theorem State.preRoll_congr {s t : State} (h : ∀ n, t.joinable n = s.joinable n) (limit n : Nat) :
    t.preRoll limit n = s.preRoll limit n := by
  induction limit generalizing n with
  | zero => cases n <;> rfl
  | succ limit ih =>
    cases n with
    | zero => rfl
    | succ n => simp only [State.preRoll, h, ih]

/-- The walk joins the longest run of joinable pictures just below its start, up to the limit. -/
theorem State.preRoll_spec (s : State) (limit n : Nat) : s.preRoll limit n ≤ limit ∧ s.preRoll limit n ≤ n ∧
    (∀ m, n ≤ m + s.preRoll limit n → m < n → s.joinable m = true) ∧
    (s.preRoll limit n < limit → s.preRoll limit n < n → s.joinable (n - s.preRoll limit n - 1) = false) := by
  induction limit generalizing n with
  | zero =>
    have hzero : s.preRoll 0 n = 0 := by cases n <;> rfl
    rw [hzero]
    exact ⟨Nat.le_refl _, Nat.zero_le _, fun m hle hlt => by omega, fun hlt => by omega⟩
  | succ limit ih =>
    cases n with
    | zero =>
      have hzero : s.preRoll (limit + 1) 0 = 0 := rfl
      rw [hzero]
      exact ⟨Nat.zero_le _, Nat.le_refl _, fun m _ hlt => by omega, fun _ hlt => by omega⟩
    | succ n =>
      obtain ⟨hlimit, hstart, hrun, hend⟩ := ih n
      cases hjoin : s.joinable n with
      | false =>
        have hzero : s.preRoll (limit + 1) (n + 1) = 0 := by simp [State.preRoll, hjoin]
        rw [hzero]
        exact ⟨Nat.zero_le _, Nat.zero_le _, fun m hle hlt => by omega, fun _ _ => hjoin⟩
      | true =>
        have hsucc : s.preRoll (limit + 1) (n + 1) = s.preRoll limit n + 1 := by simp [State.preRoll, hjoin]
        rw [hsucc]
        refine ⟨by omega, by omega, fun m hle hlt => ?_, fun hlt hlt' => ?_⟩
        · by_cases hm : m = n
          · rw [hm, hjoin]
          · exact hrun m (by omega) (by omega)
        · rw [show n + 1 - (s.preRoll limit n + 1) - 1 = n - s.preRoll limit n - 1 by omega]
          exact hend (by omega) (by omega)

theorem Tkc.firstSource_eq (k : Tkc) : k.firstSource = (match k.lastOpen with
    | some n => n + 1
    | none => 0) := by
  unfold Tkc.firstSource
  cases k.lastOpen <;> rfl

/-! ## The bracket of a lane (R148) -/

section
variable {s : State} {l : LaneId}

theorem State.bracket_congr {t : State} (h : t.tkc.takes = s.tkc.takes) : t.bracket l = s.bracket l := by
  simp only [State.bracket, Tkc.inState, h]

theorem State.bracket_of_closing {c : TakeRec} (hc : s.tkc.inState .closing = some c) (hlane : c.onLane l = true) :
    s.bracket l = some c.number := by simp [State.bracket, hc, hlane]

/-- A lane without the CLOSING take stands in the OPEN take, when that has the lane. -/
theorem State.bracket_of_not_closing (hc : ∀ c, s.tkc.inState .closing = some c → c.onLane l = false) :
    s.bracket l = (s.tkc.inState .opened).bind fun o => if o.onLane l then some o.number else none := by
  unfold State.bracket
  split
  · next c hclosing => simp [hc c hclosing]
  · rfl

theorem State.handItem_of_none (h : s.bracket l = none) (take : Option Nat) (i : Item) :
    s.handItem l take i = s.push l i := by simp only [State.handItem, h]

theorem State.handItem_of_some {b : Nat} (h : s.bracket l = some b) (take : Option Nat) (i : Item) :
    s.handItem l take i = if take = some b then s.push l i else s.setHold l (s.hold l ++ [i]) := by
  simp only [State.handItem, h]

theorem State.handItem_listSide_ne {l' : LaneId} (h : l' ≠ l) (take : Option Nat) (i : Item) :
    ((s.handItem l take i).lane l').listSide = (s.lane l').listSide := by
  unfold State.handItem
  split
  · exact s.push_listSide_ne h i
  · split
    · exact s.push_listSide_ne h i
    · rw [State.setHold_lane]

theorem State.openOnLane_listSide_ne {l' : LaneId} (h : l' ≠ l) (t : TakeRec) :
    ((s.openOnLane t l).lane l').listSide = (s.lane l').listSide := by
  unfold State.openOnLane
  split
  · exact State.handItem_listSide_ne h ..
  · rfl

/-- TAKE OPEN stands in a lane of the take's set that stands in the take (R146). -/
theorem State.openOnLane_takeOpen {t : TakeRec} (hlane : t.onLane l = true) (hbracket : s.bracket l = some t.number)
    (hroom : markerCount (s.lane l).items ≤ 126) : .marker t.openMarker ∈ ((s.openOnLane t l).lane l).items := by
  have hitems := congrArg LaneSender.items
    (State.pushMarker_takeOpen (n := t.number) (s0 := t.s0) (first := t.s) (pActual := t.pActual) (mode := t.mode)
      hroom)
  have hpushed : ((s.pushMarker l t.openMarker).lane l).items = (s.lane l).items ++ [.marker t.openMarker] := hitems
  rw [State.openOnLane, if_pos hlane, State.handItem_of_some hbracket, if_pos rfl, State.push, hpushed]
  exact List.mem_append_right _ List.mem_cons_self

end

/-! ## What the handing of units and the joining of pictures keep -/

/-- The fields of a record that only its stop, its close and a MARK write. -/
def TakeRec.header (x : TakeRec) : TakeRec :=
  { number := x.number, state := x.state, s0 := x.s0, pActual := x.pActual, s := x.s, e := x.e
    stopPending := x.stopPending, mode := x.mode, aF := x.aF, aP := x.aP, bP := x.bP, reason := x.reason
    endStamp := x.endStamp, marks := x.marks }

/-- What the handing of units of take `n` keeps. -/
structure State.KeptByHanding (n : Nat) (P : State → Prop) : Prop where
  item : ∀ u l take i, P u → P (u.handItem l take i)
  edit : ∀ u f, (∀ x : TakeRec, (f x).header = x.header) → P u → P (u.editTake n f)
  test : ∀ u, P u → P u.testClosing
  wait : ∀ (u : State) w, P u → P { u with tkc := { u.tkc with waiting := w } }

/-- What the joining of a pre-roll to take `n` keeps. -/
structure State.KeptByJoining (n : Nat) (P : State → Prop) : Prop extends State.KeptByHanding n P where
  join : ∀ u m, P u → P (u.joinPicture n m)
  need : ∀ u h, P u → P (u.setNeeds h)

/-- The pre-roll's numbers and stamps written, and the gaps and the start stamp of its take. -/
def State.preRollJoined (s : State) (t : TakeRec) (sources : List Nat) : State :=
  let s1 := sources.foldl (fun s n => s.joinPicture t.number n) s
  s1.editTake t.number fun x => { x with
    gaps := x.gaps + (sources.filter s1.preRollGap).length
    mayCarryProxy := sources.any s1.mayProxy
    startStamp := match sources.head? with
      | some n => s1.masterStamp n
      | none => none }

/-- The units of the pre-roll, F before P (R142). -/
def State.preRollPlan (s : State) (t : TakeRec) (sources : List Nat) : List Handing :=
  sources.filterMap (s.planHanding t .f) ++ sources.filterMap (s.planHanding t .p)

theorem State.joinPreRoll_eq (s : State) (t : TakeRec) (sources : List Nat) : s.joinPreRoll t sources =
    ((s.preRollJoined t sources).preRollPlan t sources).foldl (fun s h => s.deliver t.number h)
      (((s.preRollJoined t sources).preRollPlan t sources).foldl State.setNeeds (s.preRollJoined t sources)) := rfl

theorem TakeRec.countUnit_header (x : TakeRec) (st : Stream) (source : Nat) (e : Option DirEntry) :
    (x.countUnit st source e).header = x.header := by cases st <;> rfl

section
variable {n : Nat} {P : State → Prop}

theorem State.KeptByHanding.handUnit (hP : State.KeptByHanding n P) {u : State} (hu : P u) (st : Stream) (source : Nat)
    (toA toB : Bool) : P (u.handUnit st source toA toB (some n)) := by
  have hhand : ∀ {v : State} (b : Bool) (l : LaneId), P v →
      P (if b then v.handItem l (some n) (.unit st source) else v) := fun b l hv => by
    split
    · exact hP.item _ _ _ _ hv
    · exact hv
  exact hP.test _ (hP.edit _ _ (fun x => x.countUnit_header ..) (hhand toB .b (hhand toA .a hu)))

theorem State.KeptByHanding.deliver (hP : State.KeptByHanding n P) (u : State) (h : Handing) (hu : P u) :
    P (u.deliver n h) := by
  unfold State.deliver
  split
  · exact hP.handUnit hu ..
  · exact hP.wait _ _ hu

theorem State.KeptByHanding.openOnLane (hP : State.KeptByHanding n P) {u : State} (hu : P u) (t : TakeRec)
    (l : LaneId) : P (u.openOnLane t l) := by
  unfold State.openOnLane
  split
  · exact hP.item _ _ _ _ hu
  · exact hu

theorem State.KeptByJoining.joinPreRoll {t : TakeRec} (hP : State.KeptByJoining t.number P) {u : State} (hu : P u)
    (sources : List Nat) : P (u.joinPreRoll t sources) :=
  foldl_keeps hP.deliver _ (foldl_keeps hP.need _ (hP.edit _ _ (fun _ => rfl) (foldl_keeps hP.join _ hu)))

end

end Sys2Proof.Machine
end

section
/-! What a start leaves (R138 to R146): the TKC's registers, the record of its take, the pictures of its pre-roll, and
what stands in the lanes' lists. -/

namespace Sys2Proof.Machine

/-! ## The joining of one picture (R142) -/

/-- An entry under a take number, with a record-run stamp if there is one. -/
def DirEntry.stamped (take : Nat) (rr : Option Label) (e : DirEntry) : DirEntry :=
  { e with take := some take, rrStamp := rr <|> e.rrStamp }

/-- A record under a take number, with a record-run stamp if there is one. -/
def PicRecord.stamped (take : Nat) (rr : Option Label) (r : PicRecord) : PicRecord :=
  { r with take := some take, rrStamp := rr <|> r.rrStamp }

/-- A picture that joins a take is stamped in both directories and in the Picture Table, and nowhere else. -/
theorem State.joinPicture_writes (s : State) (take m : Nat) : ∃ rr,
    (∀ st, ((s.joinPicture take m).ringState st).dir =
      modifyEntry m (DirEntry.stamped take rr) (s.ringState st).dir) ∧
    (s.joinPicture take m).ti = { s.ti with table := modifyRecord m (PicRecord.stamped take rr) s.ti.table } ∧
    (s.joinPicture take m).tcu.freeRun = s.tcu.freeRun := by
  have hstamp : ∀ rr st, ((s.stampPicture m take rr).ringState st).dir =
      modifyEntry m (DirEntry.stamped take rr) (s.ringState st).dir := fun rr st => by cases st <;> rfl
  unfold State.joinPicture
  split
  · exact ⟨none, hstamp none, rfl, rfl⟩
  · exact ⟨some s.tcu.recordRun, fun st =>
      (congrArg RingState.dir (State.ringState_congr rfl st)).trans (hstamp _ st), rfl, rfl⟩

theorem State.setNeeds_dir (s : State) (h : Handing) (st : Stream) : ((s.setNeeds h).ringState st).dir =
    if st = h.stream then modifyEntry h.source (fun e => { e with
      needA := e.needA || h.toA, needB := e.needB || h.toB }) (s.ringState st).dir
    else (s.ringState st).dir := by
  split
  · next hst =>
    subst hst
    exact s.dir_editEntry ..
  · next hst => exact congrArg RingState.dir (s.ringState_editEntry_ne hst ..)

/-! ## The registers -/

/-- The TKC's registers, the Tile FIFO and the free-run counter. -/
def State.startRegisters (s : State) : (Nat × Nat × Option Nat × Bool × Nat) × List FifoEntry × Label :=
  ((s.tkc.nextTake, s.tkc.counters.started, s.tkc.lastOpen, s.tkc.armed, s.tkc.pmax), s.ti.fifo, s.tcu.freeRun)

theorem State.keptByJoining_registers (n : Nat) (s : State) :
    State.KeptByJoining n fun u => u.startRegisters = s.startRegisters where
  item u l take i hu := hu ▸ by simp [State.startRegisters]
  edit u f _ hu := hu
  test u hu := hu ▸ by simp [State.startRegisters]
  wait u w hu := hu
  join u m hu := by
    obtain ⟨rr, -, hti, htcu⟩ := u.joinPicture_writes n m
    exact hu ▸ by simp [State.startRegisters, hti, htcu]
  need u h hu := hu ▸ by simp [State.startRegisters]

/-! ## The record of the take -/

theorem TakeRec.header_fields {x y : TakeRec} (h : x.header = y.header) :
    x.number = y.number ∧ x.state = y.state ∧ x.stopPending = y.stopPending :=
  ⟨congrArg (a₁ := x.header) (a₂ := y.header) TakeRec.number h,
    congrArg (a₁ := x.header) (a₂ := y.header) TakeRec.state h,
    congrArg (a₁ := x.header) (a₂ := y.header) TakeRec.stopPending h⟩

/-- The take `t` is OPEN in an orderly Take Table, with no stop pending, while the controller is RECORDING. -/
structure State.Started (s : State) (t : TakeRec) : Prop where
  order : s.oneOpenTake
  ctl : s.tkc.ctl = .recording
  taken : ∃ x ∈ s.tkc.takes, x.header = t.header
  running : ∀ o ∈ s.tkc.takes, o.state = .opened → o.stopPending = none

namespace State.Started

variable {s : State} {t : TakeRec}

theorem of_takes {u : State} (h : s.Started t) (htakes : u.tkc.takes = s.tkc.takes) (hctl : u.tkc.ctl = s.tkc.ctl)
    (hnext : u.tkc.nextTake = s.tkc.nextTake) : u.Started t :=
  ⟨h.order.of_takes htakes hctl hnext, hctl.trans h.ctl, htakes ▸ h.taken, htakes ▸ h.running⟩

theorem editTake (h : s.Started t) (n : Nat) {f : TakeRec → TakeRec} (hf : ∀ x, (f x).header = x.header) :
    (s.editTake n f).Started t := by
  obtain ⟨horder, hctl, ⟨x, hx, hheader⟩, hrunning⟩ := h
  refine ⟨horder.editTake n fun x => ?_, hctl, ?_, ?_⟩
  · obtain ⟨hnumber, hstate, -⟩ := TakeRec.header_fields (hf x)
    exact ⟨hnumber, hstate⟩
  · by_cases hn : x.number = n
    · exact ⟨f x, mem_modifyTake_of_eq hx hn, (hf x).trans hheader⟩
    · exact ⟨x, mem_modifyTake_of_ne hx hn, hheader⟩
  · refine forall_mem_modifyTake (fun y hy _ hopen => ?_) fun y hy _ => hrunning y hy
    obtain ⟨-, hstate, hpending⟩ := TakeRec.header_fields (hf y)
    rw [hpending]
    exact hrunning y hy (hstate.symm.trans hopen)

/-- The end of another take leaves the started one as it is. -/
theorem announcedClosed (h : s.Started t) (hopen : t.state = .opened) {c : TakeRec}
    (hc : s.tkc.inState .closing = some c) : (s.announcedClosed c).Started t := by
  obtain ⟨horder, hctl, ⟨x, hx, hheader⟩, hrunning⟩ := h
  have hxo : x.state = .opened := (TakeRec.header_fields hheader).2.1.trans hopen
  have hne : x.number ≠ c.number :=
    (s.oneOpenTake_iff.1 horder).opened_ne_closing hx (Tkc.inState_mem hc) hxo (Tkc.inState_state hc)
  have htakes := (State.announcedClosed_tkc s c).1
  refine ⟨(horder.announcedClosed hc).1, by simpa using hctl, ⟨x, ?_, hheader⟩, ?_⟩
  · rw [htakes]
    exact mem_modifyTake_of_ne hx hne
  · rw [htakes]
    exact forall_mem_modifyTake (fun _ _ _ => nofun) fun y hy _ => hrunning y hy

theorem testClosing (h : s.Started t) (hopen : t.state = .opened) : s.testClosing.Started t :=
  State.testClosing_induction (P := fun u => u.Started t) h
    (fun _ _ hc hu => hu.announcedClosed hopen hc) fun u hu => by
      rwa [State.promote_of_none_pending fun o ho => hu.running o (Tkc.inState_mem ho) (Tkc.inState_state ho)]

theorem keptByJoining (n : Nat) (hopen : t.state = .opened) : State.KeptByJoining n fun u => u.Started t where
  item u l take i hu := hu.of_takes (by simp) (by simp) (by simp)
  edit u f hf hu := hu.editTake n hf
  test u hu := hu.testClosing hopen
  wait u w hu := hu.of_takes rfl rfl rfl
  join u m hu := hu.of_takes (by simp) (by simp) (by simp)
  need u h hu := hu.of_takes (by simp) (by simp) (by simp)

end State.Started

/-! ## The pictures of the pre-roll -/

theorem forall_mem_modifyRecord {P : PicRecord → Prop} {n : Nat} {f : PicRecord → PicRecord} {table : List PicRecord}
    (hedited : ∀ r ∈ table, r.source = n → P (f r)) (hother : ∀ r ∈ table, r.source ≠ n → P r) :
    ∀ r ∈ modifyRecord n f table, P r := by
  rw [modifyRecord_eq]
  intro r hr
  obtain ⟨x, hx, rfl⟩ := List.mem_map.1 hr
  split
  · next hn => exact hedited x hx hn
  · next hn => exact hother x hx hn

/-- A picture stands under a take number wherever it stands. -/
structure State.JoinedTo (s : State) (take m : Nat) : Prop where
  entries : s.AllEntries fun _ e => e.source = m → e.take = some take
  records : ∀ r ∈ s.ti.table, r.source = m → r.take = some take

theorem DirEntry.keptByLanes_take (take m : Nat) :
    DirEntry.KeptByLanes fun _ e => e.source = m → e.take = some take :=
  ⟨fun _ _ l h => by cases l <;> exact h, fun _ _ l h => by cases l <;> exact h⟩

theorem State.joinPicture_joinedTo (s : State) (take m : Nat) : (s.joinPicture take m).JoinedTo take m := by
  obtain ⟨rr, hdir, hti, -⟩ := s.joinPicture_writes take m
  refine ⟨⟨fun st => ?_⟩, ?_⟩
  · rw [hdir st]
    exact forall_mem_modifyEntry (fun _ _ _ _ => rfl) fun _ _ hne he => absurd he hne
  · rw [hti]
    exact forall_mem_modifyRecord (fun _ _ _ _ => rfl) fun _ _ hne hr => absurd hr hne

theorem State.keptByJoining_joinedTo (take m : Nat) : State.KeptByJoining take fun u => u.JoinedTo take m where
  item u l t i hu := ⟨hu.entries.handItem (DirEntry.keptByLanes_take take m) l t i, by simpa using hu.records⟩
  edit u f _ hu := ⟨hu.entries.of_fsc rfl, hu.records⟩
  test u hu := ⟨hu.entries.testClosing (DirEntry.keptByLanes_take take m), by simpa using hu.records⟩
  wait u w hu := ⟨hu.entries.of_fsc rfl, hu.records⟩
  join u m' hu := by
    obtain ⟨rr, hdir, hti, -⟩ := u.joinPicture_writes take m'
    refine ⟨⟨fun st => ?_⟩, ?_⟩
    · rw [hdir st]
      exact forall_mem_modifyEntry (fun _ _ _ _ => rfl) fun e he _ => hu.entries.of_mem st e he
    · rw [hti]
      exact forall_mem_modifyRecord (fun _ _ _ _ => rfl) fun r hr _ => hu.records r hr
  need u h hu := ⟨hu.entries.editEntry h.stream fun _ _ he => he, by simpa using hu.records⟩

/-- Every picture of the pre-roll stands under the take's number (R142). -/
theorem State.joinPreRoll_joinedTo (s : State) (t : TakeRec) {sources : List Nat} {m : Nat} (hm : m ∈ sources) :
    (s.joinPreRoll t sources).JoinedTo t.number m := by
  have hP := State.keptByJoining_joinedTo t.number m
  have hjoined : (sources.foldl (fun s n => s.joinPicture t.number n) s).JoinedTo t.number m :=
    foldl_establishes hm (fun u => u.joinPicture_joinedTo ..) hP.join s
  exact foldl_keeps hP.deliver _ (foldl_keeps hP.need _ (hP.edit _ _ (fun _ => rfl) hjoined))

/-! ## The F units handed to Lane A (R142) -/

/-- What the walk and the lanes' work leave of an entry: its source, and its need and its send on Lane A. -/
def DirEntry.sideA (e : DirEntry) : Nat × Bool × Bool := (e.source, e.needA, e.sentA)

theorem map_sideA_of_core {r q : RingState} (h : r.core = q.core) :
    r.dir.map DirEntry.sideA = q.dir.map DirEntry.sideA := by
  have hcore : ∀ x : RingState, x.core.dir.map DirEntry.sideA = x.dir.map DirEntry.sideA := fun x => by
    simp only [RingState.core, List.map_map]
    rfl
  rw [← hcore r, h, hcore]

theorem map_sideA_modifyEntry {f : DirEntry → DirEntry} (hf : ∀ e, (f e).sideA = e.sideA) (m : Nat)
    (dir : List DirEntry) : (modifyEntry m f dir).map DirEntry.sideA = dir.map DirEntry.sideA := by
  simp only [modifyEntry, List.map_map]
  refine List.map_congr_left fun e _ => ?_
  simp only [Function.comp]
  split
  · exact hf e
  · rfl

/-- Directories that agree in this side hold the same units with it. -/
theorem find?_source_of_map_sideA {dir dir' : List DirEntry} (h : dir'.map DirEntry.sideA = dir.map DirEntry.sideA)
    {m : Nat} {e : DirEntry} (he : (dir.find? fun x => x.source == m) = some e) :
    ∃ e', (dir'.find? fun x => x.source == m) = some e' ∧ e'.sideA = e.sideA := by
  induction dir generalizing dir' with
  | nil => exact nomatch he
  | cons x rest ih =>
    obtain ⟨x', rest', rfl, hx, hrest⟩ := List.map_eq_cons_iff.1 h
    have hsource : x'.source = x.source := congrArg Prod.fst hx
    by_cases hm : x.source = m
    · obtain rfl : x = e := by simpa [List.find?_cons, hm] using he
      exact ⟨x', by simp [hsource, hm], hx⟩
    · have he' : (rest.find? fun x => x.source == m) = some e := by simpa [List.find?_cons, hm] using he
      obtain ⟨e', hfound, hside⟩ := ih hrest he'
      exact ⟨e', by simpa [List.find?_cons, hsource, hm] using hfound, hside⟩

theorem State.preRollJoined_sideA (s : State) (t : TakeRec) (sources : List Nat) :
    ((s.preRollJoined t sources).ringState .f).dir.map DirEntry.sideA = (s.ringState .f).dir.map DirEntry.sideA := by
  have hjoined : ∀ (u : State) n, (u.ringState .f).dir.map DirEntry.sideA = (s.ringState .f).dir.map DirEntry.sideA →
      ((u.joinPicture t.number n).ringState .f).dir.map DirEntry.sideA = (s.ringState .f).dir.map DirEntry.sideA := by
    intro u n hu
    obtain ⟨rr, hdir, -⟩ := u.joinPicture_writes t.number n
    rw [hdir, map_sideA_modifyEntry (f := DirEntry.stamped t.number rr) (fun _ => rfl), hu]
  exact foldl_keeps (P := fun u : State => (u.ringState .f).dir.map DirEntry.sideA =
    (s.ringState .f).dir.map DirEntry.sideA) hjoined sources rfl

theorem State.keptByHanding_handedA (n : Nat) (st : Stream) (m : Nat) :
    State.KeptByHanding n fun u => u.HandedA (.unit st m) where
  item _ l take i hu := hu.handItem l take i
  edit _ _ _ hu := hu.of_hold id rfl
  test _ hu := hu.testClosing
  wait _ _ hu := hu.of_hold id rfl

theorem State.deliver_handedA (s : State) (n m : Nat) (toB : Bool) :
    (s.deliver n ⟨.f, m, true, toB⟩).HandedA (.unit .f m) := by
  have hP := State.keptByHanding_handedA n .f m
  have hhanded := s.handItem_handedA (some n) .f m
  have hlanes : State.HandedA (if toB then (s.handItem .a (some n) (.unit .f m)).handItem .b (some n) (.unit .f m)
      else s.handItem .a (some n) (.unit .f m)) (.unit .f m) := by
    split
    · exact hP.item _ _ _ _ hhanded
    · exact hhanded
  rw [State.deliver, if_pos (.inl rfl)]
  exact hP.test _ (hP.edit _ _ (fun x => x.countUnit_header ..) hlanes)

/-- An F unit of the pre-roll that Lane A shall carry and has not had is handed to it (R142). -/
theorem State.joinPreRoll_handedA (s : State) {t : TakeRec} {sources : List Nat} {m : Nat} (hm : m ∈ sources)
    (haF : t.aF = true) {e : DirEntry} (he : s.fsc.f.entry m = some e) (hneed : e.needA = false)
    (hsent : e.sentA = false) : (s.joinPreRoll t sources).HandedA (.unit .f m) := by
  obtain ⟨e', he', hside⟩ := find?_source_of_map_sideA (s.preRollJoined_sideA t sources) he
  have hneed' : e'.needA = false := (congrArg (fun x => x.2.1) hside).trans hneed
  have hsent' : e'.sentA = false := (congrArg (fun x => x.2.2) hside).trans hsent
  have hplan : (s.preRollJoined t sources).planHanding t .f m = some ⟨.f, m, true, false⟩ := by
    have hentry : ((s.preRollJoined t sources).ringState .f).entry m = some e' := he'
    rw [State.planHanding, hentry]
    simp [haF, hneed', hsent']
  have hmem : (⟨.f, m, true, false⟩ : Handing) ∈ (s.preRollJoined t sources).preRollPlan t sources :=
    List.mem_append_left _ (List.mem_filterMap.2 ⟨m, hm, hplan⟩)
  rw [State.joinPreRoll_eq]
  exact foldl_establishes hmem (fun u => u.deliver_handedA t.number m false)
    (State.keptByHanding_handedA t.number .f m).deliver _

/-! ## The markers -/

theorem State.keptByJoining_marker (n : Nat) (l : LaneId) (m : Marker) :
    State.KeptByJoining n fun u => .marker m ∈ (u.lane l).items where
  item _ l' take i hu := State.handItem_stays l' take i trivial hu
  edit _ _ _ hu := by cases l <;> exact hu
  test _ hu := State.testClosing_stays trivial hu
  wait _ _ hu := by cases l <;> exact hu
  join _ _ hu := by cases l <;> simpa using hu
  need _ _ hu := by cases l <;> simpa using hu

end Sys2Proof.Machine
end

section
/-! START taken whole (R138 to R146), and its obligation. -/

namespace Sys2Proof.Machine

/-! ## A start in its parts -/

/-- The record of the take that a start with pre-roll `p` creates (R138 to R141). -/
def State.startRec (s : State) (p : Nat) : TakeRec :=
  s.newTake (s.preRoll (s.tkc.clampPreRoll p) s.tkc.firstSource)

/-- The take created, before its lanes are told. -/
def State.created (s : State) (p : Nat) : State :=
  s.createTake (s.startRec p) (decide (s.tkc.clampPreRoll p ≠ p))

/-- The take created and announced on its lanes, before its pre-roll joins. -/
def State.announced (s : State) (p : Nat) : State :=
  ((s.created p).openOnLane (s.startRec p) .a).openOnLane (s.startRec p) .b

/-- The source numbers of the pre-roll. -/
def State.preRollSources (s : State) (p : Nat) : List Nat :=
  (List.range (s.startRec p).pActual).map fun i => (s.startRec p).s + i

theorem State.startTake_eq (s : State) (p : Nat) :
    s.startTake p = (s.announced p).joinPreRoll (s.startRec p) (s.preRollSources p) := rfl

section
variable {s : State} {p : Nat}

theorem State.mem_preRollSources {m : Nat}
    (hlow : s.tkc.firstSource ≤ m + s.preRoll (s.tkc.clampPreRoll p) s.tkc.firstSource)
    (hhigh : m < s.tkc.firstSource) : m ∈ s.preRollSources p := by
  obtain ⟨-, hle, -⟩ := s.preRoll_spec (s.tkc.clampPreRoll p) s.tkc.firstSource
  refine List.mem_map.2 ⟨m - (s.startRec p).s, List.mem_range.2 ?_, ?_⟩ <;>
    · simp only [State.startRec, State.newTake]
      omega

/-- What the creation of the take sets up and the handing keeps, holds once its lanes are told. -/
theorem State.KeptByHanding.announced {P : State → Prop} (hP : State.KeptByHanding (s.startRec p).number P)
    (h : P (s.created p)) : P (s.announced p) := hP.openOnLane (hP.openOnLane h ..) ..

theorem State.KeptByJoining.startTake {P : State → Prop} (hP : State.KeptByJoining (s.startRec p).number P)
    (h : P (s.created p)) : P (s.startTake p) := hP.joinPreRoll (hP.toKeptByHanding.announced h) _

/-! ## The registers and the record -/

theorem State.startTake_registers : (s.startTake p).tkc.nextTake = nextTakeNumber s.tkc.nextTake ∧
    (s.startTake p).tkc.counters.started = bump s.tkc.counters.started ∧
    (s.startTake p).tkc.lastOpen = s.tkc.lastOpen ∧ (s.startTake p).tkc.armed = s.tkc.armed ∧
    (s.startTake p).tkc.pmax = s.tkc.pmax ∧ (s.startTake p).ti.fifo = s.ti.fifo ∧
    (s.startTake p).tcu.freeRun = s.tcu.freeRun := by
  have hregisters := (State.keptByJoining_registers _ (s.created p)).startTake (p := p) (s := s) rfl
  obtain ⟨-, hnext, hlast, harmed, hpmax, hstarted, -⟩ := s.tkc.makeRoom_fields
  simpa [State.startRegisters, State.created, State.createTake, hnext, hlast, harmed, hpmax, hstarted, and_assoc]
    using hregisters

theorem State.created_started (h : s.oneOpenTake) (hctl : s.tkc.ctl ≠ .recording) :
    (s.created p).Started (s.startRec p) := by
  refine ⟨h.createTake hctl rfl rfl _, rfl, ⟨_, List.mem_append_right _ List.mem_cons_self, rfl⟩, fun o ho hopen => ?_⟩
  rcases List.mem_append.1 ho with ho | ho
  · exact absurd ((s.oneOpenTake_iff.1 h).recording o (s.tkc.makeRoom_sublist.subset ho) hopen) hctl
  · rw [List.mem_singleton.1 ho]
    rfl

theorem State.startTake_started (h : s.oneOpenTake) (hctl : s.tkc.ctl ≠ .recording) :
    (s.startTake p).Started (s.startRec p) :=
  (State.Started.keptByJoining _ rfl).startTake (State.created_started h hctl)

/-! ## The pre-roll -/

theorem State.announced_sideA : ((s.announced p).ringState .f).dir.map DirEntry.sideA =
    (s.ringState .f).dir.map DirEntry.sideA := by
  have hlane : ∀ (u : State) t l, ((u.openOnLane t l).ringState .f).core = (u.ringState .f).core := fun u t l => by
    unfold State.openOnLane
    split
    · exact u.handItem_core ..
    · rfl
  exact map_sideA_of_core ((hlane _ _ .b).trans (hlane _ _ .a))

theorem State.startTake_handedA {m : Nat} (hm : m ∈ s.preRollSources p) (haF : s.prs.lanes.aF = true) {e : DirEntry}
    (he : s.fsc.f.entry m = some e) (hneed : e.needA = false) (hsent : e.sentA = false) :
    (s.startTake p).HandedA (.unit .f m) := by
  obtain ⟨e', he', hside⟩ := find?_source_of_map_sideA State.announced_sideA he
  exact State.joinPreRoll_handedA (s.announced p) hm haF he' ((congrArg (fun x => x.2.1) hside).trans hneed)
    ((congrArg (fun x => x.2.2) hside).trans hsent)

/-! ## TAKE OPEN -/

/-- With no take CLOSING each lane of the set stands in the take that has just been created. -/
theorem State.created_bracket (h : s.oneOpenTake) (hctl : s.tkc.ctl ≠ .recording) (hc : s.tkc.inState .closing = none)
    {l : LaneId} (hlane : (s.startRec p).onLane l = true) :
    (s.created p).bracket l = some (s.startRec p).number := by
  have hclosing : (s.created p).tkc.inState .closing = none := Tkc.inState_eq_none_iff.2 fun x hx => by
    rcases List.mem_append.1 hx with hx | hx
    · exact Tkc.inState_eq_none_iff.1 hc x (s.tkc.makeRoom_sublist.subset hx)
    · rw [List.mem_singleton.1 hx]
      exact nofun
  have hopen : (s.created p).tkc.inState .opened = some (s.startRec p) := by
    have hnone : s.tkc.makeRoom.takes.find? (fun x => x.state == .opened) = none := List.find?_eq_none.2 fun x hx => by
      simpa using fun hopen => hctl ((s.oneOpenTake_iff.1 h).recording x (s.tkc.makeRoom_sublist.subset hx) hopen)
    have htakes : (s.created p).tkc.takes = s.tkc.makeRoom.takes ++ [s.startRec p] := rfl
    rw [Tkc.inState, htakes, List.find?_append, hnone]
    rfl
  rw [State.bracket_of_not_closing fun c hx => (nomatch hclosing.symm.trans hx), hopen, Option.bind_some, if_pos hlane]

theorem State.announced_takeOpen (h : s.oneOpenTake) (hctl : s.tkc.ctl ≠ .recording)
    (hc : s.tkc.inState .closing = none) {l : LaneId} (hlane : (s.startRec p).onLane l = true)
    (hroom : markerCount (s.lane l).items ≤ 126) :
    .marker (s.startRec p).openMarker ∈ ((s.announced p).lane l).items := by
  have hbracket := State.created_bracket h hctl hc hlane
  cases l with
  | a =>
    exact (State.keptByJoining_marker (s.startRec p).number .a _).toKeptByHanding.openOnLane
      (State.openOnLane_takeOpen hlane hbracket hroom) ..
  | b =>
    have hitems := LaneSender.items_of_listSide
      (State.openOnLane_listSide_ne (s := s.created p) (l := .a) (l' := .b) (by decide) (s.startRec p))
    refine State.openOnLane_takeOpen hlane ((State.bracket_congr (by simp)).trans hbracket) ?_
    rw [hitems]
    exact hroom

/-- TAKE OPEN stands in each lane of the take's set (R146). -/
theorem State.startTake_takeOpen (h : s.oneOpenTake) (hctl : s.tkc.ctl ≠ .recording)
    (hc : s.tkc.inState .closing = none) {l : LaneId} (hlane : (s.startRec p).onLane l = true)
    (hroom : markerCount (s.lane l).items ≤ 126) :
    .marker (s.startRec p).openMarker ∈ ((s.startTake p).lane l).items :=
  (State.keptByJoining_marker (s.startRec p).number l _).joinPreRoll
    (State.announced_takeOpen h hctl hc hlane hroom) _

end

/-! ## START -/

section
variable {d : Directive} {s : State}

theorem ownStart_of_recording (h : s.tkc.ctl = .recording) : ownStart d s = refuse s .refusedBusy := by
  simp only [ownStart, h]

theorem ownStart_of_not_recording (h : s.tkc.ctl ≠ .recording) : ownStart d s =
    ⟨s.startTake (fieldAt d.args 0 2),
      if s.tkc.clampPreRoll (fieldAt d.args 0 2) = fieldAt d.args 0 2 then .done else .doneClamped,
      .started (s.startRec (fieldAt d.args 0 2)).number (s.startRec (fieldAt d.args 0 2)).s0
        (s.startRec (fieldAt d.args 0 2)).s (s.startRec (fieldAt d.args 0 2)).pActual⟩ := by
  cases hctl : s.tkc.ctl with
  | recording => exact absurd hctl h
  | idle => simp only [ownStart, hctl, State.startRec]
  | caching => simp only [ownStart, hctl, State.startRec]

/-- The count of a directive taken leaves the start as it is. -/
theorem State.startRec_countTaken (s : State) (k : DirKind) (p : Nat) :
    (s.countTaken k).startRec p = s.startRec p := by
  unfold State.startRec
  rw [State.preRoll_congr (s := s) (t := s.countTaken k) fun _ => rfl]
  rfl

end

/-- Settles O43. -/
theorem startJoinsTheLongestPreRoll : Obligations.StartJoinsTheLongestPreRoll := by
  refine ⟨fun s d rest hacc => ⟨fun hctl => ?busy, fun hctl => ?start⟩, fun s limit s0 => s.preRoll_spec limit s0,
    fun s l take i => ⟨fun c hc hlane => State.bracket_of_closing hc hlane, fun hclosing => ?bracket,
      fun hnone => State.handItem_of_none hnone take i, fun b hb => State.handItem_of_some hb take i,
      s.pushItem_items l i⟩⟩
  case busy => exact State.next_of_refused hacc (ownStart_of_recording hctl)
  case bracket =>
    rw [State.bracket_of_not_closing hclosing]
    exact ⟨fun o ho => by rw [ho]; rfl, fun hnone => by rw [hnone]; rfl⟩
  case start =>
    have hrec := s.startRec_countTaken .start (fieldAt d.args 0 2)
    obtain ⟨hnext, hstarted, hlast, harmed, hpmax, hfifo, hfree⟩ :=
      State.startTake_registers (s := s.countTaken .start) (p := fieldAt d.args 0 2)
    refine ⟨_, (s.countTaken .start).startTake (fieldAt d.args 0 2), s.tkc.clampPreRoll (fieldAt d.args 0 2),
      s.tkc.firstSource, (s.startRec (fieldAt d.args 0 2)).pActual, rfl, s.tkc.firstSource_eq, rfl,
      State.next_of_taken hacc (ownStart_of_not_recording hctl), ?answer, hnext, hstarted, hlast, harmed, hpmax,
      by simp, by simp, by simp, by simp, by simp, by simp, hfifo, hfree, fun horder => ?table⟩
    case answer =>
      rw [hrec]
      rfl
    case table =>
      have horder' : (s.countTaken .start).oneOpenTake := horder.same rfl
      obtain ⟨-, hrecording, ⟨r, hr, hheader⟩, -⟩ := State.startTake_started (p := fieldAt d.args 0 2) horder' hctl
      rw [hrec] at hheader
      refine ⟨hrecording, ⟨r, hr, ?record⟩, fun n hlow hhigh => ?preRoll, fun l hclosing hroom hlane => ?marker⟩
      case record =>
        obtain ⟨hnumber, hstate, hs0, hactual, hs, he, hpending, hmode, haF, haP, hbP, hstamp, hreason, hmarks⟩ := by
          simpa [TakeRec.header, State.startRec, State.newTake, beq_eq_decide] using hheader
        exact ⟨hnumber, hstate, hs0, hs, hactual, hmode, haF, haP, hbP, he, hpending, hreason, hstamp, hmarks⟩
      case preRoll =>
        have hm : n ∈ (s.countTaken .start).preRollSources (fieldAt d.args 0 2) := by
          rw [State.preRollSources, hrec]
          exact State.mem_preRollSources hlow hhigh
        obtain ⟨hentries, hrecords⟩ := ((s.countTaken .start).announced (fieldAt d.args 0 2)).joinPreRoll_joinedTo
          ((s.countTaken .start).startRec (fieldAt d.args 0 2)) hm
        have hentry : ∀ st e, (((s.countTaken .start).startTake (fieldAt d.args 0 2)).ringState st).entry n = some e →
            e.take = some s.tkc.nextTake := fun st e he =>
          hentries.of_mem st e (List.mem_of_find?_eq_some he) (by simpa using List.find?_some he)
        exact ⟨hentry .f, hentry .p, fun r hr => hrecords r (List.mem_of_find?_eq_some hr) (State.record_source hr),
          fun e he haF hneed hsent => State.startTake_handedA hm haF he hneed hsent⟩
      case marker =>
        have hmarker := State.startTake_takeOpen (p := fieldAt d.args 0 2) horder' hctl hclosing (l := l)
          (by cases l <;> simpa [State.startRec, State.newTake, TakeRec.onLane] using hlane)
          (by cases l <;> exact hroom)
        rw [hrec] at hmarker
        exact hmarker

end Sys2Proof.Machine
end

section
/-! The rules of a lane sender (chapter 9): what each of its operations does, one equation per case. -/

namespace Sys2Proof.Machine

/-! ## The reset line (R173) -/

/-- Settles O3: the lane senders stand as `State.reset` has them. -/
theorem resetLineStopsBothLanes : Obligations.ResetLineStopsBothLanes := by
  refine fun trigHigh s => ⟨s.afterResetLine trigHigh, rfl, fun l => ?_⟩
  have hempty : (s.afterResetLine trigHigh).lane l = {} := by cases l <;> rfl
  rw [hempty]
  exact ⟨rfl, rfl, rfl, rfl, rfl, rfl, rfl, rfl, rfl, rfl, rfl, rfl⟩

/-! ## Reports (R162, R185, R186) -/

section
variable {x : LaneSender} {c : Nat}

theorem LaneSender.startReport_of_free {q : QueuedReport} {rest : List QueuedReport} (htx : x.tx = none)
    (hqueue : x.queue = q :: rest) :
    x.startReport = { x with
      tx := some (.report q), queue := rest
      counters := { x.counters with reports := bump x.counters.reports } } := by
  simp only [LaneSender.startReport, htx, hqueue]

theorem LaneSender.startReport_of_sending (htx : x.tx.isSome = true) : x.startReport = x := by
  obtain ⟨k, hk⟩ := Option.isSome_iff_exists.1 htx
  simp only [LaneSender.startReport, hk]

theorem LaneSender.enqueue_of_room (hroom : x.queue.length < c) (r : Report) :
    x.enqueue c r = ({ x with queue := x.queue ++ [⟨r, x.lost⟩], lost := 0 } : LaneSender).startReport :=
  if_pos hroom

theorem LaneSender.enqueue_of_sending (hroom : x.queue.length < c) (htx : x.tx.isSome = true) (r : Report) :
    x.enqueue c r = { x with queue := x.queue ++ [⟨r, x.lost⟩], lost := 0 } :=
  (LaneSender.enqueue_of_room hroom r).trans (LaneSender.startReport_of_sending htx)

theorem LaneSender.enqueue_of_free (hroom : 0 < c) (hqueue : x.queue = []) (htx : x.tx = none) (r : Report) :
    x.enqueue c r = { x with
      tx := some (.report ⟨r, x.lost⟩), lost := 0
      counters := { x.counters with reports := bump x.counters.reports } } := by
  have hjoined : x.queue ++ [⟨r, x.lost⟩] = [⟨r, x.lost⟩] := by rw [hqueue, List.nil_append]
  rw [LaneSender.enqueue_of_room (by rwa [hqueue]) r, hjoined, hqueue]
  exact LaneSender.startReport_of_free htx rfl

theorem LaneSender.enqueue_of_full (hfull : c ≤ x.queue.length) (r : Report) :
    x.enqueue c r = { x with
      lost := min (x.lost + 1) 65535
      counters := { x.counters with refusedReports := bump x.counters.refusedReports } } :=
  if_neg (Nat.not_lt.2 hfull)

end

/-- An answer counts its code, queues its reply on the lane of the directive's class, and takes the directive from the
FIFO (R178, R180). -/
theorem State.answer_eq {s : State} {d : Directive} {rest : List Directive} (hfifo : s.du.fifo = d :: rest)
    (rc : ReplyCode) (data : ReplyData) :
    s.answer d rc data = State.setLane
      { s with du := { s.du with fifo := rest, counters := s.du.counters.countRefusal rc } } d.cls.lane
      ((s.lane d.cls.lane).enqueue (reportCapacity d.cls.lane) (.reply d.cls d.code d.tag rc data)) := by
  have htail : s.du.fifo.tail = rest := by rw [hfifo]; rfl
  subst htail
  obtain ⟨cls, code, tag, args⟩ := d
  cases cls <;> rfl

/-- Settles O55: a report by the room in its queue and the transmitter, a reply by the class of its directive. -/
theorem reportsAreAdmittedOrLost : Obligations.ReportsAreAdmittedOrLost := by
  refine ⟨fun x c r => ⟨fun hroom htx => LaneSender.enqueue_of_sending hroom htx r,
    fun hroom hqueue htx => LaneSender.enqueue_of_free hroom hqueue htx r,
    fun hfull => LaneSender.enqueue_of_full hfull r⟩, fun s d rest rc data hfifo => ?_⟩
  rw [State.answer_eq hfifo]
  cases d.cls <;> rfl

/-! ## The choice of the next packet (R162) -/

section
variable {s : State} {l : LaneId}

theorem State.choose_of_sending (htx : (s.lane l).tx.isSome = true) : s.choose l = s := by
  obtain ⟨k, hk⟩ := Option.isSome_iff_exists.1 htx
  simp only [State.choose, hk]

theorem State.choose_of_report {q : QueuedReport} {rest : List QueuedReport} (htx : (s.lane l).tx = none)
    (hqueue : (s.lane l).queue = q :: rest) : s.choose l = s.setLane l (s.lane l).startReport := by
  simp only [State.choose, htx, hqueue]

theorem State.choose_of_idle (htx : (s.lane l).tx = none) (hqueue : (s.lane l).queue = [])
    (hitems : (s.lane l).items = []) : s.choose l = s := by
  simp only [State.choose, htx, hqueue, hitems]

theorem State.choose_of_unit {st : Stream} {source : Nat} {rest : List Item} (htx : (s.lane l).tx = none)
    (hqueue : (s.lane l).queue = []) (hitems : (s.lane l).items = .unit st source :: rest)
    (hcredit : (s.lane l).credit ≠ 0) : s.choose l = s.startSegment l st source := by
  simp only [State.choose, htx, hqueue, hitems, if_neg hcredit]

theorem State.chooseOnCredit_of_unit {st : Stream} {source : Nat} {rest : List Item}
    (hitems : (s.lane l).items = .unit st source :: rest) : s.chooseOnCredit l = s.choose l := by
  simp only [State.chooseOnCredit, hitems]

theorem State.chooseOnCredit_of_sending (htx : (s.lane l).tx.isSome = true) : s.chooseOnCredit l = s := by
  unfold State.chooseOnCredit
  split
  · exact State.choose_of_sending htx
  · rfl
  · rfl

end

/-! ## The end of a packet (R166, R167) -/

section
variable {s : State} {l : LaneId}

theorem State.packetSent_of_free (htx : (s.lane l).tx = none) : s.packetSent l = s := by
  simp only [State.packetSent, htx]

theorem State.packetSent_of_sending {k : Packet} (htx : (s.lane l).tx = some k) :
    s.packetSent l = ((s.packetEnded l k).setLane l { (s.packetEnded l k).lane l with tx := none }).choose l := by
  simp only [State.packetSent, State.finishPacket, htx]

/-- A packet that ends with an empty queue, and with no item left in the list, leaves its lane FREE. -/
theorem State.packetSent_of_emptied {k : Packet} {t : State} {x : LaneSender} (htx : (s.lane l).tx = some k)
    (hended : s.packetEnded l k = t.setLane l x) (hqueue : x.queue = []) (hitems : x.items = []) :
    s.packetSent l = t.setLane l { x with tx := none } := by
  rw [State.packetSent_of_sending htx, hended, State.lane_setLane, State.setLane_setLane]
  exact State.choose_of_idle (by simp) (by simpa using hqueue) (by simpa using hitems)

/-- Ordinary release reads the directories and the TKC, so that it does not see a lane's update. -/
theorem State.ordinaryRelease_setLane (s : State) (l : LaneId) (x : LaneSender) (st : Stream) :
    (s.setLane l x).ordinaryRelease st = (s.ordinaryRelease st).setLane l x := by
  have hreleasable : (s.setLane l x).releasable = s.releasable := by cases l <;> rfl
  simp only [State.ordinaryRelease, hreleasable, State.ringState_setLane]
  split
  · rfl
  · cases l <;> cases st <;> rfl

/-- The last segment of the unit in progress ends the unit's send and is followed by an ordinary release (R109,
R166). -/
theorem State.segmentSent_of_last {g : Segment} (hlast : g.last = true)
    (hprogress : (s.lane l).inProgress = some ⟨g.stream, g.source, g.index + 1⟩) :
    s.segmentSent l g =
      ((s.editEntry g.stream g.source fun e => e.markSent l).ordinaryRelease g.stream).setLane l { s.lane l with
        items := (s.lane l).items.tail, inProgress := none
        counters := { (s.lane l).counters with units := bump (s.lane l).counters.units } } := by
  have hbegun : (s.lane l).begun g.stream g.source = true := by simp [LaneSender.begun, hprogress]
  have hlane : (s.editEntry g.stream g.source fun e => e.markSent l).lane l = s.lane l := by cases l <;> simp
  rw [State.segmentSent, hlast, hbegun, Bool.and_self, if_pos rfl, State.unitSent, State.ordinaryRelease_setLane, hlane]

end

/-- Settles O54: the end of a packet by the packet. -/
theorem sentPacketLeavesItsLane : Obligations.SentPacketLeavesItsLane := by
  refine fun s l => ⟨fun htx => congrArg Host.Outcome.next (State.packetSent_of_free htx),
    fun r q rest htx hqueue => congrArg Host.Outcome.next ?next,
    fun r htx hqueue hitems => congrArg Host.Outcome.next ?idle,
    fun m htx hqueue hitems => congrArg Host.Outcome.next ?marker,
    fun g u htx hlast hprogress hqueue hitems hu => congrArg Host.Outcome.next ?segment⟩
  case next =>
    rw [State.packetSent_of_sending htx, State.packetEnded, State.choose_of_report (by simp) (by simpa using hqueue),
      State.lane_setLane, State.setLane_setLane,
      LaneSender.startReport_of_free (x := { s.lane l with tx := none }) rfl hqueue]
  case idle => exact State.packetSent_of_emptied htx (s.setLane_lane l).symm hqueue hitems
  case marker =>
    have hleft : (s.lane l).markerSent.items = [] := by simp [LaneSender.markerSent, hitems]
    rw [State.packetSent_of_emptied htx rfl hqueue hleft, LaneSender.markerSent, hitems]
    rfl
  case segment =>
    rw [State.packetSent_of_emptied htx (State.segmentSent_of_last hlast hprogress) hqueue (by simp [hitems]),
      hitems, hu]
    rfl

/-! ## Stalls (R171, R172) -/

section
variable {s : State} {l : LaneId}

theorem State.takeStall_of_due {st : Stream} {source : Nat} (hdue : (s.lane l).stallDue = some (st, source)) :
    s.takeStall l = State.notify (s.setLane l { s.lane l with
        stallLatch := true
        counters := { (s.lane l).counters with stalls := bump (s.lane l).counters.stalls } })
      (.laneStall l st source (s.lane l).nextIndex 32) := by
  simp only [State.takeStall, hdue]

theorem LaneSender.stallDue_of_no_unit {x : LaneSender} (h : ∀ st source rest, x.items ≠ .unit st source :: rest) :
    x.stallDue = none := by
  unfold LaneSender.stallDue
  split
  · split
    · next hitems => exact absurd hitems (h _ _ _)
    · rfl
    · rfl
  · rfl

theorem State.notify_stallLatch (s : State) (n : Notice) (l : LaneId) :
    ((s.notify n).lane l).stallLatch = (s.lane l).stallLatch := by
  cases l with
  | a =>
    obtain ⟨-, -, -, -, -, hlatch, -⟩ := s.lsA.enqueue_frame 32 (.notice n)
    exact hlatch
  | b => rfl

/-- A stall that has been reported is due no more: the latch is set. -/
theorem State.takeStall_takeStall (s : State) (l : LaneId) : (s.takeStall l).takeStall l = s.takeStall l := by
  cases hdue : (s.lane l).stallDue with
  | none => rw [State.takeStall_of_none hdue, State.takeStall_of_none hdue]
  | some unit =>
    refine State.takeStall_of_none (LaneSender.stallDue_of_none (.inl ?_))
    rw [State.takeStall_of_due hdue, State.notify_stallLatch, State.lane_setLane]

theorem State.resume_of_clear (hlatch : (s.lane l).stallLatch = false) :
    s.resume l = s.setLane l { s.lane l with stall := 0 } := by
  simp only [State.resume, hlatch, Bool.false_eq_true, if_false]

theorem State.resume_of_latched (hlatch : (s.lane l).stallLatch = true) :
    s.resume l = State.notify (s.setLane l { s.lane l with stall := 0, stallLatch := false })
      (.laneResumed l (s.lane l).stall) := by
  simp only [State.resume, hlatch, if_true]

/-! ## Credit (R163) -/

theorem LaneSender.addCredit_eq (x : LaneSender) :
    x.addCredit = { x with
      credit := if x.credit = 65535 then 65535 else x.credit + 1
      counters := { x.counters with
        pulses := bump x.counters.pulses
        excess := if x.credit = 65535 then bump x.counters.excess else x.counters.excess } } := by
  by_cases hfull : x.credit = 65535
  · simp only [LaneSender.addCredit, hfull, if_true]
  · simp only [LaneSender.addCredit, hfull, if_false]

theorem LaneSender.addCredit_of_below {x : LaneSender} (h : x.credit < 65535) :
    x.addCredit = { x with
      credit := x.credit + 1, counters := { x.counters with pulses := bump x.counters.pulses } } :=
  if_neg h.ne

theorem LaneSender.addCredit_tx (x : LaneSender) : x.addCredit.tx = x.tx := by rw [LaneSender.addCredit_eq]

theorem State.creditPulse_of_not_due (hdue : (s.lane l).stallDue = none) :
    s.creditPulse l = ((s.resume l).setLane l ((s.resume l).lane l).addCredit).chooseOnCredit l := by
  simp only [State.creditPulse, State.takeStall_of_none hdue]

/-- A pulse with no stall due and none latched: the stall count restarts, and the block is added before the choice. -/
theorem State.creditPulse_of_clear (hlatch : (s.lane l).stallLatch = false) (hstall : (s.lane l).stall < 32) :
    s.creditPulse l =
      (s.setLane l ({ s.lane l with stall := 0 } : LaneSender).addCredit).chooseOnCredit l := by
  rw [State.creditPulse_of_not_due (LaneSender.stallDue_of_none (.inr hstall)), State.resume_of_clear hlatch,
    State.lane_setLane, State.setLane_setLane]

end

/-- Settles O52: a pulse by the latch, LANE_STALL by whether the stall is due. -/
theorem creditPulseAddsABlockAndEndsAStall : Obligations.CreditPulseAddsABlockAndEndsAStall := by
  refine fun s => ⟨fun l htx hlatch hstall => congrArg Host.Outcome.next ?clear,
    fun htx hlatch hcredit => congrArg Host.Outcome.next ?latched,
    fun l st source rest hitems => ⟨fun hstall hlatch => ⟨_, rfl, ?due, congrArg Host.Outcome.next ?taken⟩,
      fun h => congrArg Host.Outcome.next (State.takeStall_of_none (LaneSender.stallDue_of_none h.symm))⟩,
    fun l h => congrArg Host.Outcome.next (State.takeStall_of_none (LaneSender.stallDue_of_no_unit h))⟩
  case clear =>
    have hsending : ((s.setLane l ({ s.lane l with stall := 0 } : LaneSender).addCredit).lane l).tx.isSome = true := by
      rwa [State.lane_setLane, LaneSender.addCredit_tx]
    rw [State.creditPulse_of_clear hlatch hstall, State.chooseOnCredit_of_sending hsending,
      LaneSender.addCredit_eq]
  case latched =>
    have hlsB : (s.resume .b).lane .b = { s.lsB with stall := 0, stallLatch := false } := by
      rw [State.resume_of_latched (l := .b) hlatch]
      rfl
    rw [State.creditPulse_of_not_due (l := .b) (LaneSender.stallDue_of_none (.inl hlatch)), hlsB,
      LaneSender.addCredit_of_below (x := { s.lsB with stall := 0, stallLatch := false }) hcredit,
      State.chooseOnCredit_of_sending (by simpa using htx), State.resume_of_latched (l := .b) hlatch]
    rfl
  case due => exact State.takeStall_of_due (LaneSender.stallDue_of_unit hstall hlatch hitems)
  case taken => simp only [State.creditPulse, State.takeStall_takeStall]

end Sys2Proof.Machine
end

section
/-! The segment a lane sends next (R112 to R114, R162 to R164, R169): its choice by a FREE transmitter with credit. -/

namespace Sys2Proof.Machine

/-! ## A lane's update is not seen by the reads of the store -/

@[simp] theorem State.tables_setLane (s : State) (l : LaneId) (x : LaneSender) (st : Stream) :
    (s.setLane l x).tables st = s.tables st := by
  cases l <;> cases st <;> rfl

theorem State.badWords_setLane (s : State) (l : LaneId) (x : LaneSender) (r : Ring) (e : DirEntry) (i : Nat) :
    (s.setLane l x).badWords r e i = s.badWords r e i := by
  cases l <;> rfl

theorem State.sendData_setLane (s : State) (l : LaneId) (x : LaneSender) (r : Ring) (e : DirEntry) (i : Nat) :
    (s.setLane l x).sendData r e i = s.sendData r e i := by
  cases l <;> rfl

/-- The segment that a changed lane sender sends: what it carries of the lane is the drop count alone. -/
theorem State.segmentOf_setLane {s : State} {l : LaneId} {x : LaneSender}
    (hdrop : x.dropPending = (s.lane l).dropPending) (st : Stream) (r : Ring) (e : DirEntry) (i : Nat) :
    (s.setLane l x).segmentOf l st r e i = s.segmentOf l st r e i := by
  have hfield : dropField l x i = dropField l (s.lane l) i := by simp only [dropField, hdrop]
  simp only [State.segmentOf, State.badWords_setLane, State.sendData_setLane, State.lane_setLane, hfield]

/-- Lane B's pending drop count goes with its segment 0 (R169). -/
theorem State.dropField_lane (s : State) (l : LaneId) (i : Nat) :
    dropField l (s.lane l) i = if l = .b ∧ i = 0 then s.lsB.dropPending else 0 := by
  cases l with
  | a => simp [dropField]
  | b => simp [dropField]

/-! ## The choice of a segment -/

/-- What a lane sender is sending: its list, the unit in progress, the transmitter, its credit and drop count, and the
counts of its segments. -/
def LaneSender.sendSide (x : LaneSender) : LaneSender :=
  { items := x.items, inProgress := x.inProgress, tx := x.tx, credit := x.credit, dropPending := x.dropPending
    counters := { segments := x.counters.segments, damaged := x.counters.damaged } }

/-- A report that joins or is refused while the transmitter is SENDING leaves what is being sent alone (R167). -/
theorem LaneSender.enqueue_sendSide {x : LaneSender} (htx : x.tx.isSome = true) (c : Nat) (r : Report) :
    (x.enqueue c r).sendSide = x.sendSide := by
  by_cases hroom : x.queue.length < c
  · rw [LaneSender.enqueue_of_sending hroom htx]
    rfl
  · rw [LaneSender.enqueue_of_full (Nat.not_lt.1 hroom)]
    rfl

theorem State.raiseFault_lsA (s : State) (l : LaneId) (st : Stream) (k : FaultRecord) :
    (s.raiseFault l st k).lsA = s.lsA.enqueue 32 (.notice (.fault k)) := by
  cases st <;> rfl

theorem State.raiseFault_lsB (s : State) (l : LaneId) (st : Stream) (k : FaultRecord) :
    (s.raiseFault l st k).lsB = s.lsB := by
  cases st <;> rfl

section
variable {s : State} {l : LaneId} {st : Stream} {source : Nat} {e : DirEntry} {r : Ring}

/-- A segment chosen: the lane sender that sends it, the read counted, and a FAULT raised or not (R113, R114, R164). -/
theorem State.startSegment_cases (hentry : (s.ringState st).entry source = some e)
    (hring : (s.tables st).ring = some r) {t : State}
    (ht : t = (s.setLane l ((s.lane l).sendSegment l (s.segmentOf l st r e (s.lane l).nextIndex))).countRead r e
      (s.lane l).nextIndex) :
    s.startSegment l st source = t ∨ ∃ k, s.startSegment l st source = t.raiseFault l st k := by
  subst ht
  simp only [State.startSegment, hentry, hring]
  split
  · split
    · exact .inl rfl
    · exact .inr ⟨_, rfl⟩
  · exact .inl rfl

/-- The lanes after the choice of a segment: its own sends it, and Lane B's sender has no other change. -/
theorem State.startSegment_lanes (hentry : (s.ringState st).entry source = some e)
    (hring : (s.tables st).ring = some r) {x : LaneSender}
    (hx : x = (s.lane l).sendSegment l (s.segmentOf l st r e (s.lane l).nextIndex)) :
    ((s.startSegment l st source).lane l).sendSide = x.sendSide ∧
      (s.startSegment l st source).lsB = (s.setLane l x).lsB := by
  have hsending : x.tx.isSome = true := by rw [hx]; rfl
  obtain hread | ⟨k, hfault⟩ := State.startSegment_cases (l := l) hentry hring rfl
  · rw [hread, ← hx]
    cases l <;> exact ⟨rfl, rfl⟩
  · rw [hfault, ← hx]
    cases l with
    | a =>
      rw [State.lane_a, State.raiseFault_lsA, State.raiseFault_lsB]
      exact ⟨LaneSender.enqueue_sendSide hsending 32 (.notice (.fault k)), rfl⟩
    | b =>
      rw [State.lane_b, State.raiseFault_lsB]
      exact ⟨rfl, rfl⟩

end

/-- Settles O53: the pulse's block is there when the head unit's next segment is chosen. -/
theorem creditLetsTheNextSegmentGo : Obligations.CreditLetsTheNextSegmentGo := by
  intro s l st source rest e r i htx hqueue hitems hlatch hstall hcredit hentry hring hi
  obtain ⟨x, hx⟩ : ∃ x : LaneSender, x = { s.lane l with
    stall := 0, credit := (s.lane l).credit + 1
    counters := { (s.lane l).counters with pulses := bump (s.lane l).counters.pulses } } := ⟨_, rfl⟩
  have hpulse : s.creditPulse l = (s.setLane l x).startSegment l st source := by
    rw [State.creditPulse_of_clear hlatch hstall,
      LaneSender.addCredit_of_below (x := { s.lane l with stall := 0 }) hcredit, ← hx,
      State.chooseOnCredit_of_unit (by simpa [hx] using hitems)]
    exact State.choose_of_unit (by simpa [hx] using htx) (by simpa [hx] using hqueue) (by simpa [hx] using hitems)
      (by simp [hx])
  have hnext : ((s.setLane l x).lane l).nextIndex = i := by
    rw [State.lane_setLane, hx, hi]
    rfl
  have hsegment : (s.setLane l x).segmentOf l st r e i = s.segmentOf l st r e i :=
    State.segmentOf_setLane (by rw [hx]) st r e i
  obtain ⟨hsends, hlsB⟩ := State.startSegment_lanes (s := s.setLane l x) (l := l) (by simpa using hentry)
    (by simpa using hring) rfl
  rw [hnext, hsegment, State.lane_setLane, State.setLane_setLane] at hlsB
  rw [hnext, hsegment, State.lane_setLane, ← hpulse] at hsends
  obtain ⟨hlist, hprogress, hsending, hblocks, -, hsegments, hdamaged⟩ := by
    simpa [LaneSender.sendSide, LaneSender.sendSegment, hx] using hsends
  refine ⟨s.creditPulse l, s.segmentOf l st r e i, rfl, hsending, ?segment, hblocks, hprogress, hlist, hsegments,
    hdamaged, ?dropCount, by simp, by simp, by simp, by simp, by simp, by simp, by simp, by simp, by simp, by simp⟩
  case segment =>
    rw [State.segmentOf, State.dropField_lane]
    rfl
  case dropCount =>
    rw [hpulse, hlsB]
    cases l with
    | a => simp
    | b => simp [LaneSender.sendSegment, hx, State.segmentOf]

end Sys2Proof.Machine
end

section
/-! The header fields of segment 0 as it is sent (R165, R196): where each part of it stands. -/

namespace Sys2Proof.Machine

/-! ## Parts of a byte string -/

/-- A part of a byte string, read back from where the parts before it end. -/
theorem take_drop_flatten {parts : List (List Byte)} {part : List Byte} {k off n : Nat} (hk : parts[k]? = some part)
    (hoff : (parts.take k).flatten.length = off) (hn : part.length = n) :
    (parts.flatten.drop off).take n = part := by
  obtain ⟨hlt, hpart⟩ := List.getElem?_eq_some_iff.1 hk
  have hsplit : parts.flatten = (parts.take k).flatten ++ (part ++ (parts.drop (k + 1)).flatten) := by
    rw [← hpart, ← List.flatten_cons, ← List.drop_eq_getElem_cons hlt, ← List.flatten_append,
      List.take_append_drop]
  rw [hsplit, List.drop_left' hoff, List.take_left' hn]

theorem fieldAt_byte_lt (bytes : List Byte) (off : Nat) : fieldAt bytes off 1 < 256 := by
  unfold fieldAt
  cases bytes.drop off with
  | nil => decide
  | cons b rest => simpa [beValue] using b.isLt

@[simp] theorem labelBytes_length (l : Label) : (labelBytes l).length = 4 := by simp [labelBytes]

/-! ## The flag of the stamp's counter -/

theorem stampFlag_lt {flags : Nat} (h : flags < 256) (recordRun : Bool) : stampFlag flags recordRun < 256 := by
  unfold stampFlag bit
  split <;> omega

theorem stampFlag_flag (flags : Nat) (recordRun : Bool) :
    stampFlag flags recordRun / 32 % 2 = if recordRun then 1 else 0 := by
  unfold stampFlag bit
  split <;> omega

theorem stampFlag_others (flags : Nat) (recordRun : Bool) : stampFlag flags recordRun % 32 = flags % 32 := by
  unfold stampFlag bit
  split <;> omega

/-! ## The header as it is sent -/

section
variable (e : DirEntry) {data : List Byte}

/-- The parts of the header before its check, with the fields of the send written in (R165). -/
def sentHeader (e : DirEntry) (data : List Byte) : List (List Byte) :=
  [data.take 1, be 1 (stampFlag (fieldAt data 1 1) e.rrStamp.isSome), (data.drop 2).take 6, be 2 (e.take.getD 0),
    labelBytes e.stamp, (data.drop 14).take 48]

/-- The parts of segment 0: the header, its check, and the bytes behind it. -/
def sentParts (e : DirEntry) (data : List Byte) : List (List Byte) :=
  sentHeader e data ++ [be 2 (crc16 (sentHeader e data).flatten).toNat, data.drop 64]

theorem withSendFields_eq (data : List Byte) : withSendFields e data = (sentParts e data).flatten := by
  simp [withSendFields, sentParts, sentHeader]

theorem withSendFields_part {part : List Byte} (k : Nat) {off n : Nat} (hk : (sentParts e data)[k]? = some part)
    (hoff : ((sentParts e data).take k).flatten.length = off) (hn : part.length = n) :
    ((withSendFields e data).drop off).take n = part := by
  rw [withSendFields_eq]
  exact take_drop_flatten hk hoff hn

theorem sentHeader_length (hdata : 64 ≤ data.length) : (sentHeader e data).flatten.length = 62 := by
  simp [sentHeader]
  omega

theorem withSendFields_length (hdata : 64 ≤ data.length) : (withSendFields e data).length = data.length := by
  rw [withSendFields_eq, sentParts, List.flatten_append, List.length_append, sentHeader_length e hdata]
  simp
  omega

theorem withSendFields_header (hdata : 64 ≤ data.length) :
    (withSendFields e data).take 62 = (sentHeader e data).flatten := by
  rw [withSendFields_eq, sentParts, List.flatten_append]
  exact List.take_left' (sentHeader_length e hdata)

theorem withSendFields_check (hdata : 64 ≤ data.length) : ((withSendFields e data).drop 62).take 2 =
    be 2 (crc16 ((withSendFields e data).take 62)).toNat := by
  rw [withSendFields_header e hdata]
  exact withSendFields_part e 6 rfl (sentHeader_length e hdata) (be_length ..)

theorem withSendFields_rest (hdata : 64 ≤ data.length) : (withSendFields e data).drop 64 = data.drop 64 := by
  rw [withSendFields_eq, sentParts, List.flatten_append, List.flatten_cons, List.flatten_singleton,
    ← List.append_assoc]
  exact List.drop_left' (by rw [List.length_append, sentHeader_length e hdata, be_length])

theorem withSendFields_flags (hdata : 64 ≤ data.length) :
    fieldAt (withSendFields e data) 1 1 = stampFlag (fieldAt data 1 1) e.rrStamp.isSome := by
  have hfront : ((sentParts e data).take 1).flatten.length = 1 := by
    simp [sentParts, sentHeader]
    omega
  rw [fieldAt, withSendFields_part e 1 rfl hfront (be_length ..), beValue_be]
  exact Nat.mod_eq_of_lt (stampFlag_lt (fieldAt_byte_lt ..) _)

end

/-- Settles O35: each part of segment 0 by its place in the header, and the DRAM by the frame of the choice. -/
theorem segmentZeroCarriesTheSendFields : Obligations.SegmentZeroCarriesTheSendFields := by
  rintro s r e data rfl hdata
  have hother : ∀ i, i ≠ 0 → s.sendData r e i = s.segmentData r e i := fun i hi => if_neg hi
  have hzero : s.sendData r e 0 = withSendFields e (s.segmentData r e 0) := if_pos rfl
  rw [hzero]
  generalize s.segmentData r e 0 = data at hdata ⊢
  refine ⟨withSendFields_length e hdata, withSendFields_part e 3 rfl ?takeAt (be_length ..),
    withSendFields_part e 4 rfl ?stampAt (labelBytes_length _), ?flag, withSendFields_check e hdata,
    withSendFields_part e 0 rfl rfl ?first, ?flags, withSendFields_part e 2 rfl ?fixedAt ?fixed,
    withSendFields_part e 5 rfl ?othersAt ?others, withSendFields_rest e hdata, hother, fun l st source => by simp⟩
  case flag => rw [withSendFields_flags e hdata, stampFlag_flag]
  case flags => rw [withSendFields_flags e hdata, stampFlag_others]
  -- what is left are the places and the lengths of the parts, whose data has its 64 bytes
  all_goals
    simp [sentParts, sentHeader]
    omega

end Sys2Proof.Machine
end

section
/-! A DIRECTIVE packet at the Directive FIFO (R22, R176, R177). -/

namespace Sys2Proof.Machine

section
variable {s : State} {x : Byte} {cls : SourceClass}

theorem State.receiveDirective_of_room (hroom : s.du.fifo.length < 8) (d : Directive) :
    s.receiveDirective d = { s with du := { s.du with fifo := s.du.fifo ++ [d] } } :=
  if_pos hroom

theorem State.receiveDirective_of_full (hfull : 8 ≤ s.du.fifo.length) (d : Directive) :
    s.receiveDirective d = { s with
      du := { s.du with counters := { s.du.counters with lost := bump s.du.counters.lost } }
      lsA := s.lsA.enqueue 32 (.notice (.directiveLost d.code d.tag d.cls)) } :=
  if_neg (Nat.not_lt.2 hfull)

theorem exec_directivePacket_of_class (hcls : classOf x.toNat = some cls) (code tag : Byte) (args : List Byte) :
    exec (.directivePacket x code tag args) s = .next (s.goodHeader.receiveDirective ⟨cls, code, tag, args⟩) := by
  show Host.Outcome.next (s.directivePacket x code tag args) = _
  simp only [State.directivePacket, hcls]

theorem exec_directivePacket_of_no_class (hcls : classOf x.toNat = none) (code tag : Byte) (args : List Byte) :
    exec (.directivePacket x code tag args) s = exec (.badPacket .format) s := by
  show Host.Outcome.next (s.directivePacket x code tag args) = Host.Outcome.next s.goodHeader.formatError
  simp only [State.directivePacket, hcls]

end

/-- Settles O15: the packet by its class byte, its directive by the room in the FIFO, which the good header leaves
alone. -/
theorem directivePacketIsAppendedOrLost : Obligations.DirectivePacketIsAppendedOrLost := by
  refine ⟨fun x code tag args s => ⟨fun cls hcls hroom => ?appended, fun hcls => ?noClass⟩,
    fun x code tag args cls s hcls hfull => ?lost⟩
  case appended =>
    have hroom' : s.goodHeader.du.fifo.length < 8 := hroom
    rw [exec_directivePacket_of_class hcls, State.receiveDirective_of_room hroom', State.goodHeader_eq]
  case noClass => exact exec_directivePacket_of_no_class hcls code tag args
  case lost =>
    have hfull' : 8 ≤ s.goodHeader.du.fifo.length := hfull
    rw [exec_directivePacket_of_class hcls, State.receiveDirective_of_full hfull', State.goodHeader_eq]

end Sys2Proof.Machine
end

section
/-! The checks the DU makes of the head directive before its owner sees it (R178, R179, R194). -/

namespace Sys2Proof.Machine

/-! ## Check 1: the code -/

theorem DirKind.mem_all (k : DirKind) : k ∈ DirKind.all := by
  cases k <;> decide

/-- A code is known exactly when it is the code of a directive. -/
theorem DirKind.ofCode_isSome (b : Byte) : (DirKind.ofCode b).isSome = true ↔ ∃ k : DirKind, k.code = b := by
  simp only [DirKind.ofCode, List.find?_isSome, DirKind.mem_all, true_and, beq_iff_eq]

section
variable {s : State} {k : DirKind} {d : Directive} {rest : List Directive} (hfifo : s.du.fifo = d :: rest)
include hfifo

theorem exec_unknownDirective_of_known (hcode : d.code = k.code) : exec .unknownDirective s = .next s := by
  have hknown : (DirKind.ofCode d.code).isSome = true := (DirKind.ofCode_isSome _).2 ⟨k, hcode.symm⟩
  simp [exec, execUnknownDirective, hfifo, hknown]

theorem exec_unknownDirective_of_unknown (hcode : ∀ k : DirKind, d.code ≠ k.code) :
    exec .unknownDirective s = .next (s.answer d .refusedUnknown .none) := by
  have hunknown : ¬ (DirKind.ofCode d.code).isSome = true := by
    rw [DirKind.ofCode_isSome]
    rintro ⟨k, hk⟩
    exact hcode k hk.symm
  simp only [exec, execUnknownDirective, hfifo, if_neg hunknown]

end

/-! ## Checks 2 and 3: class, then argument length -/

section
variable {k : DirKind} {d : Directive}

theorem DirKind.check_of_class (hpriv : k.privileged = true) (hcls : d.cls = .accessory) :
    k.check d = some .refusedClass := by
  simp [DirKind.check, hpriv, hcls]

theorem DirKind.check_of_length (hcls : k.privileged = false ∨ d.cls = .console)
    (hlength : d.args.length ≠ k.argLength d.args) : k.check d = some .refusedFormat := by
  have hallowed : (k.privileged && d.cls == .accessory) = false := by
    obtain hopen | hconsole := hcls
    · simp [hopen]
    · simp [hconsole]
  simp [DirKind.check, hallowed, hlength]

end

/-! ## The command of a directive up to its owner -/

/-- Every directive but RESTART, whose reply comes later, is executed by the shared operation (R178, R183). -/
theorem exec_command_eq_execute {k : DirKind} (hk : k ≠ .restart) :
    ∃ owner, ∀ s, exec k.command s = .next (s.execute k owner) := by
  cases k with
  | restart => exact absurd rfl hk
  | _ => exact ⟨_, fun _ => rfl⟩

section
variable {s : State} {k : DirKind} {d : Directive} {rest : List Directive} (hfifo : s.du.fifo = d :: rest)
include hfifo

/-- An execution whose directive is not the head is no event (log 27). -/
theorem exec_command_of_other (hcode : d.code ≠ k.code) : exec k.command s = .next s := by
  by_cases hk : k = .restart
  · subst hk
    show Host.Outcome.next s.restartDirective = _
    simp only [State.restartDirective, hfifo, if_pos hcode]
  · obtain ⟨owner, hexec⟩ := exec_command_eq_execute hk
    simp only [hexec, State.execute, hfifo, if_pos hcode]

/-- A directive that fails a check is answered with the check's code, whichever it is. -/
theorem exec_command_of_check {rc : ReplyCode} (hcode : d.code = k.code) (hcheck : k.check d = some rc) :
    exec k.command s = .next (s.answer d rc .none) := by
  by_cases hk : k = .restart
  · subst hk
    show Host.Outcome.next s.restartDirective = _
    simp only [State.restartDirective, hfifo, if_neg (not_not.2 hcode), hcheck]
  · obtain ⟨owner, hexec⟩ := exec_command_eq_execute hk
    simp only [hexec, State.execute, hfifo, if_neg (not_not.2 hcode), hcheck]

end

/-- Settles O56: the code by the table of codes, then the class and the argument length by the first check that
fails. -/
theorem directiveChecksComeInOrder : Obligations.DirectiveChecksComeInOrder := fun _ _ _ hfifo =>
  ⟨fun _ hcode => exec_command_of_other hfifo hcode, exec_unknownDirective_of_unknown hfifo, fun _ hcode =>
    ⟨exec_unknownDirective_of_known hfifo hcode,
      fun hpriv hcls => exec_command_of_check hfifo hcode (DirKind.check_of_class hpriv hcls),
      fun hcls hlength => exec_command_of_check hfifo hcode (DirKind.check_of_length hcls hlength)⟩⟩

end Sys2Proof.Machine
end

section
/-! QUERY: the group named, the snapshot taken, and the clear behind it (R188, R189). -/

namespace Sys2Proof.Machine

section
variable {d : Directive}

theorem ownQuery_of_no_group (hgroup : groupOf (fieldAt d.args 0 1) = none) (s : State) :
    ownQuery d s = refuse s .refusedRange := by
  simp only [ownQuery, hgroup]

/-- The snapshot is that of the state before the clear, with the option and without it. -/
theorem ownQuery_of_group {g : Group} (hgroup : groupOf (fieldAt d.args 0 1) = some g) (s : State) :
    ownQuery d s = ⟨if flagAt d.args 1 then s.clearGroup g else s, .done,
      .snapshot (fieldAt d.args 0 1) (s.snapshot g)⟩ := by
  simp only [ownQuery, hgroup]

end

/-! ## The clear of a group, block by block (R189) -/

section
variable (s : State) (g : Group)

theorem State.clearGroup_ti :
    (s.clearGroup g).ti = { s.ti with counters := if g = .intake then {} else s.ti.counters } := by
  cases g <;> rfl

theorem State.clearGroup_ps :
    (s.clearGroup g).ps = { s.ps with counters := if g = .scaler then {} else s.ps.counters } := by
  cases g <;> rfl

theorem State.clearGroup_tc :
    (s.clearGroup g).tc = { s.tc with counters := if g = .coder then {} else s.tc.counters } := by
  cases g <;> rfl

theorem State.clearGroup_scF :
    (s.clearGroup g).scF = { s.scF with counters := if g = .coder then {} else s.scF.counters } := by
  cases g <;> rfl

theorem State.clearGroup_scP :
    (s.clearGroup g).scP = { s.scP with counters := if g = .coder then {} else s.scP.counters } := by
  cases g <;> rfl

theorem State.clearGroup_fsc :
    (s.clearGroup g).fsc = { s.fsc with
      f := { s.fsc.f with counters := if g = .store then {} else s.fsc.f.counters }
      p := { s.fsc.p with counters := if g = .store then {} else s.fsc.p.counters }
      corrected := if g = .store then 0 else s.fsc.corrected
      uncorrectable := if g = .store then 0 else s.fsc.uncorrectable } := by
  cases g <;> rfl

theorem State.clearGroup_tcu :
    (s.clearGroup g).tcu = { s.tcu with counters := if g = .timecode then {} else s.tcu.counters } := by
  cases g <;> rfl

theorem State.clearGroup_tkc :
    (s.clearGroup g).tkc = { s.tkc with counters := if g = .takes then {} else s.tkc.counters } := by
  cases g <;> rfl

theorem State.clearGroup_lsA :
    (s.clearGroup g).lsA = { s.lsA with counters := if g = .lanes then {} else s.lsA.counters } := by
  cases g <;> rfl

theorem State.clearGroup_lsB :
    (s.clearGroup g).lsB = { s.lsB with counters := if g = .lanes then {} else s.lsB.counters } := by
  cases g <;> rfl

theorem State.clearGroup_du :
    (s.clearGroup g).du = { s.du with counters := if g = .directives then {} else s.du.counters } := by
  cases g <;> rfl

end

/-- Settles O57: the group by its code, then the state behind the snapshot by the clear option. -/
theorem queryGivesTheSnapshotThenClears : Obligations.QueryGivesTheSnapshotThenClears := by
  refine fun s d rest hacc => ⟨fun hgroup => State.next_of_refused hacc (ownQuery_of_no_group hgroup _),
    fun g hgroup => ⟨_, State.next_of_taken hacc (ownQuery_of_group hgroup _), fun hkept => ?kept,
      fun hclear => ?cleared⟩⟩
  case kept => exact if_neg (by simp [hkept])
  case cleared =>
    -- the count of the QUERY is the DU's alone, so every other block is that of `s`
    rw [if_pos hclear]
    exact ⟨State.clearGroup_ti .., State.clearGroup_prs .., State.clearGroup_ps .., State.clearGroup_tc ..,
      State.clearGroup_scF .., State.clearGroup_scP .., State.clearGroup_fsc .., State.clearGroup_tcu ..,
      State.clearGroup_tkc .., State.clearGroup_lsA .., State.clearGroup_lsB .., State.clearGroup_du ..,
      State.clearGroup_dram ..⟩

end Sys2Proof.Machine
end

section
/-! The samples of a TILE and its bytes: four samples and five bytes hold the same 40 bits (R193, R70). -/

namespace Sys2Proof.Machine

/-! ## Byte strings and their numbers -/

theorem beValue_lt (bytes : List Byte) : beValue bytes < 256 ^ bytes.length := by
  induction bytes with
  | nil => simp [beValue]
  | cons b rest ih =>
    calc beValue (b :: rest) = b.toNat * 256 ^ rest.length + beValue rest := beValue_cons b rest
      _ < b.toNat * 256 ^ rest.length + 256 ^ rest.length := by omega
      _ = (b.toNat + 1) * 256 ^ rest.length := by ring
      _ ≤ 256 * 256 ^ rest.length := Nat.mul_le_mul_right _ b.isLt
      _ = 256 ^ (b :: rest).length := by rw [List.length_cons, pow_succ, Nat.mul_comm]

/-- What lies above the `n` bytes written does not show in them. -/
theorem be_mul_pow_add (n k v : Nat) : be n (k * 256 ^ n + v) = be n v := by
  induction n generalizing k with
  | zero => rfl
  | succ n ih =>
    have hsplit : k * 256 ^ (n + 1) + v = (k * 256) * 256 ^ n + v := by ring
    have hdiv : ((k * 256) * 256 ^ n + v) / 256 ^ n = k * 256 + v / 256 ^ n := by
      rw [Nat.add_comm, Nat.add_mul_div_right _ _ (by positivity), Nat.add_comm]
    have hbyte : BitVec.ofNat 8 (k * 256 + v / 256 ^ n) = BitVec.ofNat 8 (v / 256 ^ n) :=
      BitVec.eq_of_toNat_eq (by simp only [BitVec.toNat_ofNat]; omega)
    rw [be, be, hsplit, hdiv, hbyte, ih]

theorem be_beValue (bytes : List Byte) : be bytes.length (beValue bytes) = bytes := by
  induction bytes with
  | nil => rfl
  | cons b rest ih =>
    have hdiv : (b.toNat * 256 ^ rest.length + beValue rest) / 256 ^ rest.length = b.toNat := by
      rw [Nat.add_comm, Nat.add_mul_div_right _ _ (by positivity), Nat.div_eq_of_lt (beValue_lt rest), Nat.zero_add]
    rw [List.length_cons, be, beValue_cons, hdiv, be_mul_pow_add, ih, BitVec.ofNat_toNat, BitVec.setWidth_eq]

/-! ## Four samples and their number -/

/-- The 40-bit number of four samples, the first one highest. -/
def sampleValue (a b c d : Sample) : Nat := ((a.toNat * 1024 + b.toNat) * 1024 + c.toNat) * 1024 + d.toNat

/-- The four samples of a 40-bit number. -/
def samplesOf (v : Nat) : List Sample :=
  [BitVec.ofNat 10 (v / 1073741824), BitVec.ofNat 10 (v / 1048576), BitVec.ofNat 10 (v / 1024), BitVec.ofNat 10 v]

theorem sampleValue_lt (a b c d : Sample) : sampleValue a b c d < 256 ^ 5 := by
  unfold sampleValue
  omega

theorem samplesOf_sampleValue (a b c d : Sample) : samplesOf (sampleValue a b c d) = [a, b, c, d] := by
  have hdigit : ∀ {x : Sample} {v : Nat}, v % 1024 = x.toNat → BitVec.ofNat 10 v = x :=
    fun h => BitVec.eq_of_toNat_eq ((BitVec.toNat_ofNat _ _).trans h)
  unfold samplesOf sampleValue
  rw [hdigit (x := a) (by omega), hdigit (x := b) (by omega), hdigit (x := c) (by omega), hdigit (x := d) (by omega)]

/-! ## One group of four samples or five bytes -/

theorem packSamples_cons (a b c d : Sample) (rest : List Sample) :
    packSamples (a :: b :: c :: d :: rest) = be 5 (sampleValue a b c d) ++ packSamples rest := by
  simp [packSamples, be, sampleValue]

theorem unpackSamples_cons (a b c d e : Byte) (rest : List Byte) :
    unpackSamples (a :: b :: c :: d :: e :: rest) = samplesOf (beValue [a, b, c, d, e]) ++ unpackSamples rest := by
  simp [unpackSamples, samplesOf, beValue]

theorem unpackSamples_be {v : Nat} (hv : v < 256 ^ 5) (rest : List Byte) :
    unpackSamples (be 5 v ++ rest) = samplesOf v ++ unpackSamples rest := by
  have hvalue : beValue (be 5 v) = v := (beValue_be 5 v).trans (Nat.mod_eq_of_lt hv)
  exact (unpackSamples_cons _ _ _ _ _ rest).trans (congrArg (samplesOf · ++ unpackSamples rest) hvalue)

theorem packSamples_samplesOf {v : Nat} (hv : v < 256 ^ 5) (rest : List Sample) :
    packSamples (samplesOf v ++ rest) = be 5 v ++ packSamples rest := by
  have hvalue : sampleValue (BitVec.ofNat 10 (v / 1073741824)) (BitVec.ofNat 10 (v / 1048576))
      (BitVec.ofNat 10 (v / 1024)) (BitVec.ofNat 10 v) = v := by
    simp only [sampleValue, BitVec.toNat_ofNat]
    omega
  exact (packSamples_cons _ _ _ _ rest).trans (congrArg (be 5 · ++ packSamples rest) hvalue)

/-! ## Whole strings -/

theorem unpackSamples_packSamples :
    ∀ {n : Nat} {x : List Sample}, x.length = 4 * n → unpackSamples (packSamples x) = x
  | 0, [], _ => rfl
  | n + 1, a :: b :: c :: d :: rest, h => by
    have hrest : rest.length = 4 * n := by
      simp only [List.length_cons] at h
      omega
    rw [packSamples_cons, unpackSamples_be (sampleValue_lt a b c d), samplesOf_sampleValue,
      unpackSamples_packSamples hrest]
    rfl

theorem packSamples_unpackSamples :
    ∀ {n : Nat} {bytes : List Byte}, bytes.length = 5 * n → packSamples (unpackSamples bytes) = bytes
  | 0, [], _ => rfl
  | n + 1, a :: b :: c :: d :: e :: rest, h => by
    have hrest : rest.length = 5 * n := by
      simp only [List.length_cons] at h
      omega
    have hbytes : be 5 (beValue [a, b, c, d, e]) = [a, b, c, d, e] := be_beValue [a, b, c, d, e]
    rw [unpackSamples_cons, packSamples_samplesOf (beValue_lt [a, b, c, d, e]), hbytes,
      packSamples_unpackSamples hrest]
    rfl

/-- Five bytes unpack into 4 samples. -/
theorem unpackSamples_length :
    ∀ {n : Nat} {bytes : List Byte}, bytes.length = 5 * n → (unpackSamples bytes).length = 4 * n
  | 0, [], _ => rfl
  | n + 1, _ :: _ :: _ :: _ :: _ :: rest, h => by
    have hrest : rest.length = 5 * n := by
      simp only [List.length_cons] at h
      omega
    simp only [unpackSamples, List.length_cons, unpackSamples_length hrest]
    omega

/-- Settles O13: by the number of groups of four samples, or of five bytes; a TILE has 256. -/
theorem sampleBytesRoundTrip : Obligations.SampleBytesRoundTrip :=
  ⟨fun _ hx => unpackSamples_packSamples (Nat.mul_div_cancel' (Nat.dvd_of_mod_eq_zero hx)).symm,
    fun _ hb => packSamples_unpackSamples (Nat.mul_div_cancel' (Nat.dvd_of_mod_eq_zero hb)).symm,
    fun _ hb => unpackSamples_length (n := 256) hb⟩

end Sys2Proof.Machine
end

section
/-! The command queue: a step takes the command at its front, and no command touches what waits behind (chapter 95;
logs 1, 3 and 6). -/

namespace Sys2Proof.Machine

/-! ## The step -/

section
variable {s : State}

theorem step_of_front {c : Instr} {rest : List Instr} (h : s.pending = c :: rest) :
    step s = exec c { s with pending := rest } := by
  simp only [step, h]

theorem step_of_empty (h : s.pending = []) : step s = .next s := by
  simp only [step, h]

end

/-- Settles O1: by whether a command waits. -/
theorem stepRunsTheFrontCommand : Obligations.StepRunsTheFrontCommand :=
  ⟨fun _ _ _ => step_of_front, fun _ => step_of_empty⟩

/-! ## The owners of the directives leave the queue -/

/-- An execution leaves the queue if the owner does. -/
theorem State.pending_execute {k : DirKind} {owner : Directive → State → Taken}
    (howner : ∀ d t, (owner d t).state.pending = t.pending) (s : State) : (s.execute k owner).pending = s.pending :=
  State.execute_induction (P := fun t => t.pending = s.pending) rfl (fun _ _ _ _ h => by simpa using h)
    (fun d => howner d (s.countTaken k))

section owners

variable (d : Directive) (s : State)

theorem State.loadF_pending (x : Settings) (clamped : Bool) : (s.loadF x clamped).state.pending = s.pending := by
  simp only [State.loadF]
  split <;> simp

theorem State.loadP_pending (x : Settings) (clamped : Bool) : (s.loadP x clamped).state.pending = s.pending := by
  simp [State.loadP]

theorem ownLoadProfile_pending : (ownLoadProfile d s).state.pending = s.pending := by
  unfold ownLoadProfile
  (repeat' split) <;> simp [refuse, State.loadF_pending, State.loadP_pending]

theorem ownLoadLadder_pending : (ownLoadLadder d s).state.pending = s.pending := by
  simp only [ownLoadLadder]
  (repeat' split) <;> simp [refuse]

theorem ownSetRing_pending : (ownSetRing d s).state.pending = s.pending := by
  simp only [ownSetRing]
  (repeat' split) <;> simp [refuse]

theorem ownSetLanes_pending : (ownSetLanes d s).state.pending = s.pending := by
  unfold ownSetLanes
  (repeat' split) <;> rfl

theorem ownSetLaneBFeed_pending : (ownSetLaneBFeed d s).state.pending = s.pending := by
  unfold ownSetLaneBFeed
  split <;> rfl

theorem ownSetTrigger_pending : (ownSetTrigger d s).state.pending = s.pending := by
  unfold ownSetTrigger
  split <;> rfl

theorem ownSetTimecode_pending : (ownSetTimecode d s).state.pending = s.pending := by
  simp only [ownSetTimecode]
  (repeat' split) <;> simp [refuse]

theorem ownJam_pending : (ownJam d s).state.pending = s.pending := by
  simp only [ownJam]
  (repeat' split) <;> rfl

theorem ownDisarm_pending : (ownDisarm d s).state.pending = s.pending := by
  unfold ownDisarm
  split <;> rfl

theorem ownStart_pending : (ownStart d s).state.pending = s.pending := by
  simp only [ownStart]
  split <;> simp [refuse]

theorem ownStop_pending : (ownStop d s).state.pending = s.pending := by
  simp only [ownStop]
  (repeat' split) <;> simp [refuse]

theorem ownMark_pending : (ownMark d s).state.pending = s.pending := by
  simp only [ownMark]
  (repeat' split) <;> simp [refuse]

theorem ownReadTake_pending : (ownReadTake d s).state.pending = s.pending := by
  unfold ownReadTake
  split <;> rfl

theorem State.clearGroup_pending (g : Group) : (s.clearGroup g).pending = s.pending := by
  cases g <;> rfl

theorem ownQuery_pending : (ownQuery d s).state.pending = s.pending := by
  cases hgroup : groupOf (fieldAt d.args 0 1) with
  | none => rw [ownQuery_of_no_group hgroup]; rfl
  | some g =>
    rw [ownQuery_of_group hgroup]
    dsimp only
    split
    · exact s.clearGroup_pending g
    · rfl

/-- RESET empties the part's own queues and FIFOs, never the commands that wait outside the blocks (R184, R190). -/
theorem ownReset_pending : (ownReset d s).state.pending = s.pending := by
  simp [ownReset, State.resetPlane_eq, State.resetBlocks]

end owners

/-! ## The commands -/

/-- Settles O2: each command answers next, a directive with the queue its owner leaves, any other with the queue of its
block's operation; the reset line takes the queue over (log 6). -/
theorem everyCommandCompletes : Obligations.EveryCommandCompletes := by
  intro c s
  cases c with
  | resetLine trigHigh => exact ⟨s.afterResetLine trigHigh, rfl, rfl⟩
  | loadProfile => exact ⟨_, rfl, State.pending_execute ownLoadProfile_pending s⟩
  | loadLadder => exact ⟨_, rfl, State.pending_execute ownLoadLadder_pending s⟩
  | setRing => exact ⟨_, rfl, State.pending_execute ownSetRing_pending s⟩
  | setLanes => exact ⟨_, rfl, State.pending_execute ownSetLanes_pending s⟩
  | setLaneBFeed => exact ⟨_, rfl, State.pending_execute ownSetLaneBFeed_pending s⟩
  | setTrigger => exact ⟨_, rfl, State.pending_execute ownSetTrigger_pending s⟩
  | setTimecode => exact ⟨_, rfl, State.pending_execute ownSetTimecode_pending s⟩
  | jam => exact ⟨_, rfl, State.pending_execute ownJam_pending s⟩
  | arm => exact ⟨_, rfl, State.pending_execute (fun _ _ => rfl) s⟩
  | disarm => exact ⟨_, rfl, State.pending_execute ownDisarm_pending s⟩
  | start => exact ⟨_, rfl, State.pending_execute ownStart_pending s⟩
  | stop => exact ⟨_, rfl, State.pending_execute ownStop_pending s⟩
  | mark => exact ⟨_, rfl, State.pending_execute ownMark_pending s⟩
  | query => exact ⟨_, rfl, State.pending_execute ownQuery_pending s⟩
  | readTake => exact ⟨_, rfl, State.pending_execute ownReadTake_pending s⟩
  | clearTakes => exact ⟨_, rfl, State.pending_execute (fun _ _ => rfl) s⟩
  | reset => exact ⟨_, rfl, State.pending_execute ownReset_pending s⟩
  | unknownDirective =>
    simp only [exec, execUnknownDirective]
    split
    · exact ⟨s, rfl, rfl⟩
    · split
      · exact ⟨s, rfl, rfl⟩
      · exact ⟨_, rfl, by simp⟩
  | headerFailure | badPacket | openPacket | tilePacket | closePacket | directivePacket | fillPacket | refPulse
  | refLost | trigEdge | creditPulse | laneStall | lanePacketSent | arbiterChoice | handOver | codeTile | passByEntry
  | passByRow | restart => exact ⟨_, rfl, by simp⟩

end Sys2Proof.Machine
end
